-- ==== Sys2Proof/Word.lean ====
section
/-! DEFINITION. The machine word and its width. A word of the block is XLEN bits (R6, R7); the model carries every
XLEN-wide value in 64 bits, and on RV32 bits 63:32 of every such value are 0 (`Word.fits`, kept by every step). -/

namespace Sys2Proof

/-- A machine word. On RV32 only bits 31:0 exist (assumption 1). -/
abbrev Word := BitVec 64

/-- The parameter `XLEN` of R6: the width of a machine word. -/
inductive Xlen
  | rv32
  | rv64
deriving DecidableEq, Repr

/-- `XLEN` as a number (R6). -/
def Xlen.bits : Xlen → Nat
  | .rv32 => 32
  | .rv64 => 64

/-- `ones(XLEN)` of R7: the XLEN-bit value with every bit 1. -/
def Xlen.ones : Xlen → Word
  | .rv32 => 0xFFFFFFFF
  | .rv64 => 0xFFFFFFFFFFFFFFFF

/-- The XLEN bits of a value (`v[XLEN-1:0]`, R7). -/
def Xlen.trunc (x : Xlen) (v : Word) : Word := v &&& x.ones

/-- The value has no bit at or above XLEN. -/
def Word.fits (x : Xlen) (v : Word) : Bool := v &&& ~~~x.ones == 0

end Sys2Proof
end

