-- ==== Sys2Proof/Config.lean ====
section
/-! DEFINITION. What is fixed for the life of one register bank (the parameters of R6, the configuration fields of R23),
and the free values: constants without a body for what the far side of a port, or the trap logic, chooses. -/

namespace Sys2Proof

/-- The architecture-version tag `PRIV_VER` (R6, D2): legacy before current. -/
inductive PrivVer
  | v1_9_1
  | v1_10_0
deriving DecidableEq, Repr

/-- A current privilege level (R22, R311). H (encoding 2) is never current, so it has no constructor. -/
inductive Priv
  | u
  | s
  | m
deriving DecidableEq, Repr, Inhabited

/-- The encoding of a level: U = 0, S = 1, M = 3 (R22, R311). -/
def Priv.code : Priv → BitVec 2
  | .u => 0
  | .s => 1
  | .m => 3

/-- `LOCK_SCOPE` (R6, R317): how far the interrupt lock is shared. No rule of a one-hart model depends on it. -/
inductive LockScope
  | process
  | context
deriving DecidableEq, Repr

/-- The domain of `PABITS` (R6): an integer with `12 < PABITS`. -/
abbrev PaBits := { n : Nat // 12 < n }

/-- The implementation parameters of R6. `privVer`, `misa`, `hasMmu` (with `system`: the bank field `features`) and
`mhartid` are the configuration fields of the bank (R21, R23); no access and no reset changes any of them (R343). -/
structure Config where
  /-- `XLEN`: open (D35). -/
  xlen : Xlen
  /-- `PRIV_VER`, the bank field `priv_ver`: open (D2). -/
  privVer : PrivVer
  /-- `SYSTEM`, "supports privilege levels": true for this hardware (R5, R6, D1), false for the build of R141. -/
  system : Bool
  /-- `HAS_MMU`, "supports translation": open. -/
  hasMmu : Bool
  /-- `MISA`, the bank field `misa` (R44). -/
  misa : Word
  /-- `HARTID`, the bank field `mhartid`. -/
  mhartid : Word
  /-- `PABITS`, with its domain `12 < PABITS`. -/
  paBits : PaBits
  /-- `LEGAL_VM_LEGACY` (R135). -/
  legalVmLegacy : Vector Bool 16
  /-- `LEGAL_VM_CURRENT` (R135). -/
  legalVmCurrent : Vector Bool 16
  /-- `DELEG_INT`. -/
  delegInt : Word
  /-- `ALL_INT`. -/
  allInt : Word
  /-- `DELEG_EXC`. -/
  delegExc : Word
  /-- `PMP_CFG_COUNT`. -/
  pmpCfgCount : Nat
  /-- `PMP_ADDR_COUNT`. -/
  pmpAddrCount : Nat
  /-- `LOCK_SCOPE`: open (D40). -/
  lockScope : LockScope
deriving DecidableEq, Repr

/-- `PABITS` at its default: 34 for RV32, 50 for RV64 (R6). -/
def Config.defaultPaBits : Xlen → PaBits
  | .rv32 => ⟨34, by decide⟩
  | .rv64 => ⟨50, by decide⟩

/-- `LEGAL_VM_LEGACY` at its default (R135): RV32 holds 0 and 8, RV64 holds 0, 9 and 10. -/
def Config.defaultLegacyVm : Xlen → Vector Bool 16
  | .rv32 => #v[true, false, false, false, false, false, false, false, true, false, false, false, false, false, false, false]
  | .rv64 => #v[true, false, false, false, false, false, false, false, false, true, true, false, false, false, false, false]

/-- `LEGAL_VM_CURRENT` at its default (R135): RV32 holds 0 and 1, RV64 holds 0, 8, 9 and 10. -/
def Config.defaultCurrentVm : Xlen → Vector Bool 16
  | .rv32 => #v[true, true, false, false, false, false, false, false, false, false, false, false, false, false, false, false]
  | .rv64 => #v[true, false, false, false, false, false, false, false, true, true, true, false, false, false, false, false]

/-- The default `MISA` of R6 (IMAFDC with S and U). -/
def Config.defaultMisa : Xlen → Word
  | .rv32 => 0x4014112D
  | .rv64 => 0x800000000014112D

/-- The configuration with every parameter that R6 gives a value at that value, for a width and a version. -/
def Config.default (x : Xlen) (v : PrivVer) : Config where
  xlen := x
  privVer := v
  system := true
  hasMmu := true
  misa := Config.defaultMisa x
  mhartid := 0
  paBits := Config.defaultPaBits x
  legalVmLegacy := Config.defaultLegacyVm x
  legalVmCurrent := Config.defaultCurrentVm x
  delegInt := 0x222
  allInt := 0xAAA
  delegExc := 0xBFFF
  pmpCfgCount := 4
  pmpAddrCount := 16
  lockScope := .process

/-- The configuration of the machine's reset state: RV64, current version (assumption 2, DESIGN CHOICE). -/
def Config.atReset : Config := Config.default .rv64 .v1_10_0

/-- The masks, tables and counts have the values that R6 records, on either build: `SYSTEM` and the parameters that R6
leaves open (`XLEN`, `PRIV_VER`, `HAS_MMU`, `MISA`, `HARTID`, `LOCK_SCOPE`) are any. -/
def Config.hasRecordedValues (c : Config) : Bool :=
  c.paBits == Config.defaultPaBits c.xlen
    && c.legalVmLegacy == Config.defaultLegacyVm c.xlen
    && c.legalVmCurrent == Config.defaultCurrentVm c.xlen
    && c.delegInt == 0x222
    && c.allInt == 0xAAA
    && c.delegExc == 0xBFFF
    && c.pmpCfgCount == 4
    && c.pmpAddrCount == 16

/-- The parameters to which R6 gives a value for this hardware have that value, `SYSTEM = true` among them (R5, D1); the
open ones are any. -/
def Config.isThisHardware (c : Config) : Bool := c.system && c.hasRecordedValues

/-- `HAS_S = MISA[18]` (R44). -/
def Config.hasS (c : Config) : Bool := c.misa.getLsbD 18

/-- `HAS_U = MISA[20]` (R44). -/
def Config.hasU (c : Config) : Bool := c.misa.getLsbD 20

/-- Free value: what the PMP table's `readEntry` returns to draw number `n` for config register `i` (R216: "unconstrained
draws"; assumption 4). -/
opaque Config.pmpCfgValue (n i : Nat) : Word

/-- Free value: what the PMP table's `readEntry` returns to draw number `n` for address register `i` (R216; assumption 4). -/
opaque Config.pmpAddrValue (n i : Nat) : Word

/-- Free value: the count the clock source offers at draw number `n` (D26; assumption 5). -/
opaque Config.countValue (n : Nat) : BitVec 64

/-- Free value: the trap value the trap logic chooses at draw number `n` (R303, R309; assumption 9). -/
opaque Config.trapValue (n : Nat) : Word

/-- Free value: the level the trap logic goes to, at draw number `n`, when a return names level 2 (assumption 12). -/
opaque Config.returnLevel (n : Nat) : Priv

end Sys2Proof
end

