-- ==== Sys2Proof/Machine/State.lean ====
section
/-! DEFINITION. The state: the register bank of one hart (R20 to R44), its configuration, the state outside the bank that
the block's rules read or write through ports (R46, R88), the execution engine's registers that the six CSR instructions
use (R96, R309), the observable output of the last access (R140) and the inputs that are still to come. Plain data. -/

namespace Sys2Proof.Machine

/-- The two failure kinds of an access (R121, R301). A failed access is an ordinary result, not a fault of the machine. -/
inductive CsrError
  /-- Gating, a clear counter-enable bit, or floating-point state off (R301). -/
  | accessDenied
  /-- No entry bound to the number, or a version gate fails (R301). -/
  | unsupportedRegister
deriving DecidableEq, Repr

/-- What an access returns: the prior value, or a failure (R121, R130). -/
inductive AccessResult
  | success (prior : Word)
  | failure (kind : CsrError)
deriving DecidableEq, Repr

/-- A collaborator call made by an access (R10, R89). -/
inductive Event
  | invalidate
  | pmpCfgRead (i : Nat)
  | pmpCfgWrite (i : Nat) (v : Word)
  | pmpAddrRead (i : Nat)
  | pmpAddrWrite (i : Nat) (v : Word)
  | lock
  | getAndSetPending (m v : BitVec 32)
  | unlock
  | readPending
  | currentCount
deriving DecidableEq, Repr

/-- An event that changes a collaborator (R11: "events other than reads"; R89: the write events). -/
def Event.isWrite : Event → Bool
  | .invalidate => true
  | .pmpCfgWrite _ _ => true
  | .pmpAddrWrite _ _ => true
  | .getAndSetPending _ _ => true
  | .pmpCfgRead _ => false
  | .pmpAddrRead _ => false
  | .lock => false
  | .unlock => false
  | .readPending => false
  | .currentCount => false

/-- The interrupt lock (R46, R76, R88). While the interrupt controller holds it, its update of `mip` by `mask` and
`value` is still to be made. -/
inductive IrqLock
  | free
  | heldByHart
  | heldByController (mask value : BitVec 32)
deriving DecidableEq, Repr

/-- The exception causes of R303 (code 14 is reserved and has no name). -/
inductive ExceptionCause
  | instrMisaligned
  | instrAccessFault
  | illegalInstruction
  | breakpoint
  | loadMisaligned
  | loadAccessFault
  | storeMisaligned
  | storeAccessFault
  | ecallU
  | ecallS
  | ecallH
  | ecallM
  | instrPageFault
  | loadPageFault
  | storePageFault
deriving DecidableEq, Repr

/-- The interrupt sources this hardware implements (R304). -/
inductive InterruptSource
  | ssi
  | msi
  | sti
  | mti
  | sei
  | mei
deriving DecidableEq, Repr

/-- The cause of a trap (R303, R309). -/
inductive TrapCause
  | exception (c : ExceptionCause)
  | interrupt (i : InterruptSource)
deriving DecidableEq, Repr

/-- One direct write of the trap port (R308). -/
inductive TrapPortWrite
  | priv (p : Priv)
  | mstatus (v : Word)
  | mepc (v : Word)
  | mcause (v : Word)
  | mbadaddr (v : Word)
  | sepc (v : Word)
  | scause (v : Word)
  | sbadaddr (v : Word)
deriving DecidableEq, Repr

/-- What the outside world presents to the block, one per step (R80: program order; assumption 3). -/
inductive Input
  /-- The execution engine presents an instruction word (R95, R96). -/
  | insn (w : BitVec 32)
  /-- The execution engine calls `accessRegister` directly (R121). -/
  | call (csrno : BitVec 12) (newValue writeMask : Word)
  /-- The interrupt controller takes the lock, to update `mip` (R76, R305). -/
  | controllerLock (mask value : BitVec 32)
  /-- The interrupt controller makes its update and releases the lock (R76, R305). -/
  | controllerUnlock
  /-- The floating-point unit sets the exception flags (R10 `FpSetFlags`, R43). -/
  | fpuSetFlags (f : BitVec 5)
  /-- A direct write of the trap port (R308). -/
  | trapPort (w : TrapPortWrite)
  /-- The trap logic takes a trap, with the trap value it chose (R309). -/
  | trapEntry (c : TrapCause) (tval : Word)
  /-- The trap logic looks for an interrupt to take (R306). -/
  | pollInterrupts
  /-- The trap logic returns from a machine-level trap (R310). -/
  | mret
  /-- The trap logic returns from a supervisor-level trap (R310). -/
  | sret
  /-- Thread reset (R341). -/
  | threadReset
  /-- The execution engine writes a general register by an instruction of its own (R47, R95). -/
  | setX (r : BitVec 5) (v : Word)
  /-- The execution engine moves its program counter (R47). -/
  | setPc (v : Word)
deriving DecidableEq, Repr

/-- Why a step stops. -/
inductive Fault
  /-- Raised by `step` on the input `mret` below M and on `sret` in U: R310 gives no return there. Safe: the model stops.
  No instruction of the opcode table raises it. -/
  | returnNotAllowed
deriving DecidableEq, Repr

/-- Why a step has no meaning. -/
inductive Refusal
  /-- Raised by an arm of `exec` whose instruction has no meaning yet; no arm does. Safe. -/
  | notModelled (mnemonic : String)
  /-- Raised by `step` when the word presented is not one of the six CSR instructions: the execution engine runs it
  (R95 "both are outside the block", R321). Safe: the model stops. -/
  | notCsrInstruction
deriving DecidableEq, Repr

/-- The register bank of one hart (R20, R21), less its configuration fields, which `Config` holds. -/
structure Bank where
  /-- Current privilege level (R22). -/
  priv : Priv
  /-- Status word (R24 to R27). -/
  mstatus : Word
  /-- Interrupt-enable word (R30). -/
  mie : Word
  /-- Interrupt-pending word, 32 bits (R31). -/
  mip : BitVec 32
  /-- Interrupt delegation (R33). -/
  mideleg : Word
  /-- Exception delegation (R34). -/
  medeleg : Word
  /-- Machine trap vector (R35). -/
  mtvec : Word
  /-- Supervisor trap vector (R35). -/
  stvec : Word
  /-- Machine exception program counter (R36). -/
  mepc : Word
  /-- Supervisor exception program counter (R36). -/
  sepc : Word
  /-- Machine cause (R37). -/
  mcause : Word
  /-- Supervisor cause (R37). -/
  scause : Word
  /-- Machine bad address, `mtval` in the current version (R38). -/
  mbadaddr : Word
  /-- Supervisor bad address, `stval` in the current version (R38). -/
  sbadaddr : Word
  /-- Machine scratch (R39). -/
  mscratch : Word
  /-- Supervisor scratch (R39). -/
  sscratch : Word
  /-- Translation root, current version (R40). -/
  satp : Word
  /-- Translation root, legacy version (R41). -/
  sptbr : Word
  /-- Counter enables for supervisor reads (R42). -/
  mcounteren : Word
  /-- Counter enables for user reads (R42). -/
  scounteren : Word
  /-- Rounding mode (R43). -/
  frm : BitVec 3
  /-- Accrued exception flags (R43). -/
  fflags : BitVec 5
deriving DecidableEq, Repr

/-- The bank after reset (R340, R342): `priv` is M, every other field 0. -/
def Bank.reset : Bank where
  priv := .m
  mstatus := 0
  mie := 0
  mip := 0
  mideleg := 0
  medeleg := 0
  mtvec := 0
  stvec := 0
  mepc := 0
  sepc := 0
  mcause := 0
  scause := 0
  mbadaddr := 0
  sbadaddr := 0
  mscratch := 0
  sscratch := 0
  satp := 0
  sptbr := 0
  mcounteren := 0
  scounteren := 0
  frm := 0
  fflags := 0

/-- The machine. -/
structure State where
  /-- Configuration: the parameters of R6 and the bank's configuration fields (R23). -/
  cfg : Config
  /-- The register bank (R21). -/
  bank : Bank
  /-- The interrupt lock (R46, R88). -/
  irqLock : IrqLock
  /-- The last value `CurrentCount()` returned to this hart (R10, D26). -/
  count : BitVec 64
  /-- The execution engine's general registers, which the CSR instructions read and write (R96). -/
  x : Vector Word 32
  /-- The execution engine's program counter (R309, R310). -/
  pc : Word
  /-- The result of the last access (R140); none when the last input was not an access. -/
  result : Option AccessResult
  /-- The collaborator events of the last access, in order (R89, R140). -/
  events : List Event
  /-- The inputs still to come, the next first. -/
  inbox : List Input
  /-- The model's own: how many free values have been drawn. -/
  draws : Nat
deriving DecidableEq, Repr

/-- The machine of a configuration, right after reset. -/
def State.resetOf (c : Config) : State where
  cfg := c
  bank := Bank.reset
  irqLock := .free
  count := 0
  x := Vector.replicate 32 0
  pc := 0x80000000
  result := none
  events := []
  inbox := []
  draws := 0

/-- The machine right after reset (R340). -/
def State.reset : State := State.resetOf Config.atReset

end Sys2Proof.Machine
end

