-- ==== Sys2Proof/Machine/Flags.lean ====
section
/-! DEFINITION. The fields and masks of the status word (R24 to R28), of the interrupt words (R29), of the translation
root (R40, R41) and of the floating-point status (R43), and every computation the rules make over them. -/

namespace Sys2Proof.Machine

/-! ### Fields of `mstatus` (R24) -/

def mstatusUIE : Word := 0x1
def mstatusSIE : Word := 0x2
def mstatusMIE : Word := 0x8
def mstatusUPIE : Word := 0x10
def mstatusSPIE : Word := 0x20
def mstatusMPIE : Word := 0x80
def mstatusSPP : Word := 0x100
/-- `MSTATUS_MPP` (R25). -/
def mstatusMPP : Word := 0x1800
/-- `MSTATUS_FS` (R25). -/
def mstatusFS : Word := 0x6000
/-- `MSTATUS_XS` (R25). -/
def mstatusXS : Word := 0x18000
def mstatusMPRV : Word := 0x20000
/-- SUM, in the legacy version PUM (R101). -/
def mstatusSUM : Word := 0x40000
def mstatusMXR : Word := 0x80000
/-- `MSTATUS_VM` (R25). -/
def mstatusVM : Word := 0x1F000000
/-- `MSTATUS_SD = 1 << (XLEN-1)` (R25). -/
def mstatusSD : Xlen → Word
  | .rv32 => 0x80000000
  | .rv64 => 0x8000000000000000

/-- Set or clear the bits of a mask. -/
def setFlag (v mask : Word) (b : Bool) : Word := if b then v ||| mask else v &&& ~~~mask

/-- Some bit of the mask is set. -/
def hasFlag (v mask : Word) : Bool := v &&& mask != 0

/-- `get_field(v, MSTATUS_MPP)` (R8, R25). -/
def mppField (v : Word) : BitVec 2 := v.extractLsb' 11 2

/-- `set_field(v, MSTATUS_MPP, f)` (R8, R25). -/
def setMpp (v : Word) (f : BitVec 2) : Word := (v &&& ~~~mstatusMPP) ||| ((f.setWidth 64 <<< 11) &&& mstatusMPP)

/-- The low 4 bits of `get_field(v, MSTATUS_VM)`, the legality table's index (R135, D31). -/
def vmField (v : Word) : BitVec 4 := v.extractLsb' 24 4

/-- FS holds 3, Dirty (R26). -/
def fsDirty (v : Word) : Bool := v &&& mstatusFS == mstatusFS

/-- XS holds 3, Dirty (R26). -/
def xsDirty (v : Word) : Bool := v &&& mstatusXS == mstatusXS

/-- FS is 0, Off: floating-point state disabled (R26, R260). -/
def fsOff (v : Word) : Bool := v &&& mstatusFS == 0

/-! ### The status word's write path (R165 to R170) -/

/-- `validateAddressTranslationMode` (R135). -/
def validateVm (c : Config) (mode : BitVec 4) : Bool :=
  match c.privVer with
  | .v1_9_1 => c.legalVmLegacy[mode.toNat]'mode.isLt
  | .v1_10_0 => c.legalVmCurrent[mode.toNat]'mode.isLt

/-- `WMASK_BASE` (R166). -/
def wmaskBase : Word :=
  mstatusSIE ||| mstatusSPIE ||| mstatusMIE ||| mstatusMPIE ||| mstatusSPP ||| mstatusFS ||| mstatusMPRV ||| mstatusSUM
    ||| mstatusMPP ||| mstatusMXR

/-- `WMASK(ver, val)` (R166). -/
def wmask (c : Config) (val : Word) : Word :=
  match c.privVer with
  | .v1_10_0 => wmaskBase
  | .v1_9_1 => if validateVm c (vmField val) then wmaskBase ||| mstatusVM else wmaskBase

/-- `MPP_UNSUPPORTED(mpp)` (R167). -/
def mppUnsupported (c : Config) (mpp : BitVec 2) : Bool :=
  mpp == 2 || (mpp == 1 && !c.hasS) || (mpp == 0 && !c.hasU)

/-- `FLUSH(ver)` (R170). -/
def flushMask : PrivVer → Word
  | .v1_10_0 => mstatusMXR ||| mstatusMPP ||| mstatusMPRV ||| mstatusSUM
  | .v1_9_1 => mstatusMXR ||| mstatusMPP ||| mstatusMPRV ||| mstatusSUM ||| mstatusVM

/-- A nonzero FS is forced to Dirty (R168). -/
def forceDirty (v : Word) : Word := if fsOff v then v else v ||| mstatusFS

/-- SD is recomputed from FS and XS (R169). -/
def recomputeSd (x : Xlen) (v : Word) : Word := setFlag v (mstatusSD x) (fsDirty v || xsDirty v)

/-- The mask that a write of `val` applies: `WMASK` less MPP when its value is unsupported (R165, R167). -/
def mstatusWriteMask (c : Config) (val : Word) : Word :=
  if mppUnsupported c (mppField val) then wmask c val &&& ~~~mstatusMPP else wmask c val

/-- The status word that a write of `val` stores over `old` (R165). -/
def mstatusWritten (c : Config) (old val : Word) : Word :=
  let mask := mstatusWriteMask c val
  recomputeSd c.xlen (forceDirty ((old &&& ~~~mask) ||| (val &&& mask)))

/-- Replacing `old` by `new` invalidates (R170). -/
def mstatusFlushes (c : Config) (old new : Word) : Bool := hasFlag (new ^^^ old) (flushMask c.privVer)

/-- `SSTATUS_MASK(ver)` (R28, R171). -/
def sstatusMask (c : Config) : Word :=
  let legacy := mstatusSIE ||| mstatusSPIE ||| mstatusUIE ||| mstatusUPIE ||| mstatusSPP ||| mstatusFS ||| mstatusXS
    ||| mstatusSUM ||| mstatusSD c.xlen
  match c.privVer with
  | .v1_9_1 => legacy
  | .v1_10_0 => legacy ||| mstatusMXR

/-! ### Interrupt words (R29) -/

/-- `MIP_SEIP` (R29). -/
def mipSEIP : Word := 0x200

/-- The bits of `mip` that a CSR write of `writeMask` may change: `writeMask & DELEG_INT & ~MIP_SEIP` (R179). -/
def mipWritable (c : Config) (writeMask : Word) : Word := writeMask &&& c.delegInt &&& ~~~mipSEIP

/-- The bit of an interrupt source in `mip`, `mie` and `mideleg` (R29, R304). -/
def InterruptSource.bit : InterruptSource → Nat
  | .ssi => 1
  | .msi => 3
  | .sti => 5
  | .mti => 7
  | .sei => 9
  | .mei => 11

/-! ### Causes (R303) -/

/-- The cause code of an exception (R303). -/
def ExceptionCause.code : ExceptionCause → Nat
  | .instrMisaligned => 0
  | .instrAccessFault => 1
  | .illegalInstruction => 2
  | .breakpoint => 3
  | .loadMisaligned => 4
  | .loadAccessFault => 5
  | .storeMisaligned => 6
  | .storeAccessFault => 7
  | .ecallU => 8
  | .ecallS => 9
  | .ecallH => 10
  | .ecallM => 11
  | .instrPageFault => 12
  | .loadPageFault => 13
  | .storePageFault => 15

/-- The cause word: the code, and for an interrupt bit XLEN-1 as well (R303). -/
def TrapCause.word (x : Xlen) : TrapCause → Word
  | .exception c => BitVec.ofNat 64 c.code
  | .interrupt i => mstatusSD x ||| BitVec.ofNat 64 i.bit

/-! ### Translation root (R40, R41) -/

/-- `get_field(v, SATP_MODE)` (R40): one bit on RV32, four on RV64. -/
def satpMode (x : Xlen) (v : Word) : BitVec 4 :=
  match x with
  | .rv32 => (v.extractLsb' 31 1).setWidth 4
  | .rv64 => v.extractLsb' 60 4

/-- `SATP_MODE | SATP_ASID | SATP_PPN` (R40). -/
def satpFields : Xlen → Word
  | .rv32 => 0x80000000 ||| 0x7FC00000 ||| 0x3FFFFF
  | .rv64 => 0xF000000000000000 ||| 0x0FFFF00000000000 ||| 0xFFFFFFFFFFF

/-- `SPTBR_MASK = (1 << (PABITS - 12)) - 1` (R41). -/
def sptbrMask (c : Config) : Word := c.xlen.trunc (BitVec.ofNat 64 (2 ^ (c.paBits.val - 12) - 1))

/-! ### Floating-point status (R43) -/

/-- `fcsr = (frm << 5) | fflags` (R264). -/
def fcsrWord (frm : BitVec 3) (fflags : BitVec 5) : Word := (frm.setWidth 64 <<< 5) ||| fflags.setWidth 64

/-- `merged[7:5]` (R264). -/
def fcsrFrm (v : Word) : BitVec 3 := v.extractLsb' 5 3

/-- `merged[4:0]` (R264). -/
def fcsrFflags (v : Word) : BitVec 5 := v.extractLsb' 0 5

end Sys2Proof.Machine
end

