-- ==== Sys2Proof/Syntax.lean ====
section
/-! DEFINITION. The instructions: one constructor per row of spec/opcode_table.json. The six CSR instructions carry
their fields (R95). Every other row is a register number, and the instruction is one call of `accessRegister` with that
number (R94, R121); it carries the call's two operands, each a machine word. The nine rows of the build without the
privilege layer (R141) stand last, their names ending in `UserBuild`. -/

namespace Sys2Proof

/-- What the execution engine presents to the block: an instruction word (R95), or a call of `accessRegister` with a
12-bit number and two machine words (R94, R103, D24). -/
inductive PortWord
  | insn (w : BitVec 32)
  | call (csrno : BitVec 12) (newValue writeMask : Word)
deriving DecidableEq, Repr

/-- The instructions. A comment gives a row's register number and its rule. -/
inductive Instr
  | csrrw (csr : BitVec 12) (rs1 rd : BitVec 5)
  | csrrs (csr : BitVec 12) (rs1 rd : BitVec 5)
  | csrrc (csr : BitVec 12) (rs1 rd : BitVec 5)
  | csrrwi (csr : BitVec 12) (uimm rd : BitVec 5)
  | csrrsi (csr : BitVec 12) (uimm rd : BitVec 5)
  | csrrci (csr : BitVec 12) (uimm rd : BitVec 5)
  | csrFflags (newValue writeMask : Word) -- 0x001, R262
  | csrFrm (newValue writeMask : Word) -- 0x002, R263
  | csrFcsr (newValue writeMask : Word) -- 0x003, R264
  | csrSstatus (newValue writeMask : Word) -- 0x100, R172
  | csrSie (newValue writeMask : Word) -- 0x104, R178
  | csrStvec (newValue writeMask : Word) -- 0x105, R182
  | csrScounteren (newValue writeMask : Word) -- 0x106, R161
  | csrSscratch (newValue writeMask : Word) -- 0x140, R155
  | csrSepc (newValue writeMask : Word) -- 0x141, R156
  | csrScause (newValue writeMask : Word) -- 0x142, R157
  | csrSbadaddr (newValue writeMask : Word) -- 0x143, R158
  | csrSip (newValue writeMask : Word) -- 0x144, R180
  | csrSatp (newValue writeMask : Word) -- 0x180, R210
  | csrMstatus (newValue writeMask : Word) -- 0x300, R164
  | csrMisa (newValue writeMask : Word) -- 0x301, R183
  | csrMedeleg (newValue writeMask : Word) -- 0x302, R175
  | csrMideleg (newValue writeMask : Word) -- 0x303, R176
  | csrMie (newValue writeMask : Word) -- 0x304, R177
  | csrMtvec (newValue writeMask : Word) -- 0x305, R181
  | csrMcounteren (newValue writeMask : Word) -- 0x306, R160
  | csrMucounteren (newValue writeMask : Word) -- 0x320, R162
  | csrMscounteren (newValue writeMask : Word) -- 0x321, R163
  | csrMhpmevent3 (newValue writeMask : Word) -- 0x323, R240
  | csrMhpmevent4 (newValue writeMask : Word) -- 0x324, R240
  | csrMhpmevent5 (newValue writeMask : Word) -- 0x325, R240
  | csrMhpmevent6 (newValue writeMask : Word) -- 0x326, R240
  | csrMhpmevent7 (newValue writeMask : Word) -- 0x327, R240
  | csrMhpmevent8 (newValue writeMask : Word) -- 0x328, R240
  | csrMhpmevent9 (newValue writeMask : Word) -- 0x329, R240
  | csrMhpmevent10 (newValue writeMask : Word) -- 0x32A, R240
  | csrMhpmevent11 (newValue writeMask : Word) -- 0x32B, R240
  | csrMhpmevent12 (newValue writeMask : Word) -- 0x32C, R240
  | csrMhpmevent13 (newValue writeMask : Word) -- 0x32D, R240
  | csrMhpmevent14 (newValue writeMask : Word) -- 0x32E, R240
  | csrMhpmevent15 (newValue writeMask : Word) -- 0x32F, R240
  | csrMhpmevent16 (newValue writeMask : Word) -- 0x330, R240
  | csrMhpmevent17 (newValue writeMask : Word) -- 0x331, R240
  | csrMhpmevent18 (newValue writeMask : Word) -- 0x332, R240
  | csrMhpmevent19 (newValue writeMask : Word) -- 0x333, R240
  | csrMhpmevent20 (newValue writeMask : Word) -- 0x334, R240
  | csrMhpmevent21 (newValue writeMask : Word) -- 0x335, R240
  | csrMhpmevent22 (newValue writeMask : Word) -- 0x336, R240
  | csrMhpmevent23 (newValue writeMask : Word) -- 0x337, R240
  | csrMhpmevent24 (newValue writeMask : Word) -- 0x338, R240
  | csrMhpmevent25 (newValue writeMask : Word) -- 0x339, R240
  | csrMhpmevent26 (newValue writeMask : Word) -- 0x33A, R240
  | csrMhpmevent27 (newValue writeMask : Word) -- 0x33B, R240
  | csrMhpmevent28 (newValue writeMask : Word) -- 0x33C, R240
  | csrMhpmevent29 (newValue writeMask : Word) -- 0x33D, R240
  | csrMhpmevent30 (newValue writeMask : Word) -- 0x33E, R240
  | csrMhpmevent31 (newValue writeMask : Word) -- 0x33F, R240
  | csrMscratch (newValue writeMask : Word) -- 0x340, R151
  | csrMepc (newValue writeMask : Word) -- 0x341, R152
  | csrMcause (newValue writeMask : Word) -- 0x342, R153
  | csrMbadaddr (newValue writeMask : Word) -- 0x343, R154
  | csrMip (newValue writeMask : Word) -- 0x344, R179
  | csrPmpcfg0 (newValue writeMask : Word) -- 0x3A0, R214
  | csrPmpcfg1 (newValue writeMask : Word) -- 0x3A1, R214
  | csrPmpcfg2 (newValue writeMask : Word) -- 0x3A2, R214
  | csrPmpcfg3 (newValue writeMask : Word) -- 0x3A3, R214
  | csrPmpaddr0 (newValue writeMask : Word) -- 0x3B0, R215
  | csrPmpaddr1 (newValue writeMask : Word) -- 0x3B1, R215
  | csrPmpaddr2 (newValue writeMask : Word) -- 0x3B2, R215
  | csrPmpaddr3 (newValue writeMask : Word) -- 0x3B3, R215
  | csrPmpaddr4 (newValue writeMask : Word) -- 0x3B4, R215
  | csrPmpaddr5 (newValue writeMask : Word) -- 0x3B5, R215
  | csrPmpaddr6 (newValue writeMask : Word) -- 0x3B6, R215
  | csrPmpaddr7 (newValue writeMask : Word) -- 0x3B7, R215
  | csrPmpaddr8 (newValue writeMask : Word) -- 0x3B8, R215
  | csrPmpaddr9 (newValue writeMask : Word) -- 0x3B9, R215
  | csrPmpaddr10 (newValue writeMask : Word) -- 0x3BA, R215
  | csrPmpaddr11 (newValue writeMask : Word) -- 0x3BB, R215
  | csrPmpaddr12 (newValue writeMask : Word) -- 0x3BC, R215
  | csrPmpaddr13 (newValue writeMask : Word) -- 0x3BD, R215
  | csrPmpaddr14 (newValue writeMask : Word) -- 0x3BE, R215
  | csrPmpaddr15 (newValue writeMask : Word) -- 0x3BF, R215
  | csrMcycle (newValue writeMask : Word) -- 0xB00, R245
  | csrMinstret (newValue writeMask : Word) -- 0xB02, R246
  | csrMhpmcounter3 (newValue writeMask : Word) -- 0xB03, R238
  | csrMhpmcounter4 (newValue writeMask : Word) -- 0xB04, R238
  | csrMhpmcounter5 (newValue writeMask : Word) -- 0xB05, R238
  | csrMhpmcounter6 (newValue writeMask : Word) -- 0xB06, R238
  | csrMhpmcounter7 (newValue writeMask : Word) -- 0xB07, R238
  | csrMhpmcounter8 (newValue writeMask : Word) -- 0xB08, R238
  | csrMhpmcounter9 (newValue writeMask : Word) -- 0xB09, R238
  | csrMhpmcounter10 (newValue writeMask : Word) -- 0xB0A, R238
  | csrMhpmcounter11 (newValue writeMask : Word) -- 0xB0B, R238
  | csrMhpmcounter12 (newValue writeMask : Word) -- 0xB0C, R238
  | csrMhpmcounter13 (newValue writeMask : Word) -- 0xB0D, R238
  | csrMhpmcounter14 (newValue writeMask : Word) -- 0xB0E, R238
  | csrMhpmcounter15 (newValue writeMask : Word) -- 0xB0F, R238
  | csrMhpmcounter16 (newValue writeMask : Word) -- 0xB10, R238
  | csrMhpmcounter17 (newValue writeMask : Word) -- 0xB11, R238
  | csrMhpmcounter18 (newValue writeMask : Word) -- 0xB12, R238
  | csrMhpmcounter19 (newValue writeMask : Word) -- 0xB13, R238
  | csrMhpmcounter20 (newValue writeMask : Word) -- 0xB14, R238
  | csrMhpmcounter21 (newValue writeMask : Word) -- 0xB15, R238
  | csrMhpmcounter22 (newValue writeMask : Word) -- 0xB16, R238
  | csrMhpmcounter23 (newValue writeMask : Word) -- 0xB17, R238
  | csrMhpmcounter24 (newValue writeMask : Word) -- 0xB18, R238
  | csrMhpmcounter25 (newValue writeMask : Word) -- 0xB19, R238
  | csrMhpmcounter26 (newValue writeMask : Word) -- 0xB1A, R238
  | csrMhpmcounter27 (newValue writeMask : Word) -- 0xB1B, R238
  | csrMhpmcounter28 (newValue writeMask : Word) -- 0xB1C, R238
  | csrMhpmcounter29 (newValue writeMask : Word) -- 0xB1D, R238
  | csrMhpmcounter30 (newValue writeMask : Word) -- 0xB1E, R238
  | csrMhpmcounter31 (newValue writeMask : Word) -- 0xB1F, R238
  | csrMcycleh (newValue writeMask : Word) -- 0xB80, R247
  | csrMinstreth (newValue writeMask : Word) -- 0xB82, R248
  | csrMhpmcounter3h (newValue writeMask : Word) -- 0xB83, R239
  | csrMhpmcounter4h (newValue writeMask : Word) -- 0xB84, R239
  | csrMhpmcounter5h (newValue writeMask : Word) -- 0xB85, R239
  | csrMhpmcounter6h (newValue writeMask : Word) -- 0xB86, R239
  | csrMhpmcounter7h (newValue writeMask : Word) -- 0xB87, R239
  | csrMhpmcounter8h (newValue writeMask : Word) -- 0xB88, R239
  | csrMhpmcounter9h (newValue writeMask : Word) -- 0xB89, R239
  | csrMhpmcounter10h (newValue writeMask : Word) -- 0xB8A, R239
  | csrMhpmcounter11h (newValue writeMask : Word) -- 0xB8B, R239
  | csrMhpmcounter12h (newValue writeMask : Word) -- 0xB8C, R239
  | csrMhpmcounter13h (newValue writeMask : Word) -- 0xB8D, R239
  | csrMhpmcounter14h (newValue writeMask : Word) -- 0xB8E, R239
  | csrMhpmcounter15h (newValue writeMask : Word) -- 0xB8F, R239
  | csrMhpmcounter16h (newValue writeMask : Word) -- 0xB90, R239
  | csrMhpmcounter17h (newValue writeMask : Word) -- 0xB91, R239
  | csrMhpmcounter18h (newValue writeMask : Word) -- 0xB92, R239
  | csrMhpmcounter19h (newValue writeMask : Word) -- 0xB93, R239
  | csrMhpmcounter20h (newValue writeMask : Word) -- 0xB94, R239
  | csrMhpmcounter21h (newValue writeMask : Word) -- 0xB95, R239
  | csrMhpmcounter22h (newValue writeMask : Word) -- 0xB96, R239
  | csrMhpmcounter23h (newValue writeMask : Word) -- 0xB97, R239
  | csrMhpmcounter24h (newValue writeMask : Word) -- 0xB98, R239
  | csrMhpmcounter25h (newValue writeMask : Word) -- 0xB99, R239
  | csrMhpmcounter26h (newValue writeMask : Word) -- 0xB9A, R239
  | csrMhpmcounter27h (newValue writeMask : Word) -- 0xB9B, R239
  | csrMhpmcounter28h (newValue writeMask : Word) -- 0xB9C, R239
  | csrMhpmcounter29h (newValue writeMask : Word) -- 0xB9D, R239
  | csrMhpmcounter30h (newValue writeMask : Word) -- 0xB9E, R239
  | csrMhpmcounter31h (newValue writeMask : Word) -- 0xB9F, R239
  | csrCycle (newValue writeMask : Word) -- 0xC00, R241
  | csrInstret (newValue writeMask : Word) -- 0xC02, R242
  | csrHpmcounter3 (newValue writeMask : Word) -- 0xC03, R236
  | csrHpmcounter4 (newValue writeMask : Word) -- 0xC04, R236
  | csrHpmcounter5 (newValue writeMask : Word) -- 0xC05, R236
  | csrHpmcounter6 (newValue writeMask : Word) -- 0xC06, R236
  | csrHpmcounter7 (newValue writeMask : Word) -- 0xC07, R236
  | csrHpmcounter8 (newValue writeMask : Word) -- 0xC08, R236
  | csrHpmcounter9 (newValue writeMask : Word) -- 0xC09, R236
  | csrHpmcounter10 (newValue writeMask : Word) -- 0xC0A, R236
  | csrHpmcounter11 (newValue writeMask : Word) -- 0xC0B, R236
  | csrHpmcounter12 (newValue writeMask : Word) -- 0xC0C, R236
  | csrHpmcounter13 (newValue writeMask : Word) -- 0xC0D, R236
  | csrHpmcounter14 (newValue writeMask : Word) -- 0xC0E, R236
  | csrHpmcounter15 (newValue writeMask : Word) -- 0xC0F, R236
  | csrHpmcounter16 (newValue writeMask : Word) -- 0xC10, R236
  | csrHpmcounter17 (newValue writeMask : Word) -- 0xC11, R236
  | csrHpmcounter18 (newValue writeMask : Word) -- 0xC12, R236
  | csrHpmcounter19 (newValue writeMask : Word) -- 0xC13, R236
  | csrHpmcounter20 (newValue writeMask : Word) -- 0xC14, R236
  | csrHpmcounter21 (newValue writeMask : Word) -- 0xC15, R236
  | csrHpmcounter22 (newValue writeMask : Word) -- 0xC16, R236
  | csrHpmcounter23 (newValue writeMask : Word) -- 0xC17, R236
  | csrHpmcounter24 (newValue writeMask : Word) -- 0xC18, R236
  | csrHpmcounter25 (newValue writeMask : Word) -- 0xC19, R236
  | csrHpmcounter26 (newValue writeMask : Word) -- 0xC1A, R236
  | csrHpmcounter27 (newValue writeMask : Word) -- 0xC1B, R236
  | csrHpmcounter28 (newValue writeMask : Word) -- 0xC1C, R236
  | csrHpmcounter29 (newValue writeMask : Word) -- 0xC1D, R236
  | csrHpmcounter30 (newValue writeMask : Word) -- 0xC1E, R236
  | csrHpmcounter31 (newValue writeMask : Word) -- 0xC1F, R236
  | csrCycleh (newValue writeMask : Word) -- 0xC80, R243
  | csrInstreth (newValue writeMask : Word) -- 0xC82, R244
  | csrHpmcounter3h (newValue writeMask : Word) -- 0xC83, R237
  | csrHpmcounter4h (newValue writeMask : Word) -- 0xC84, R237
  | csrHpmcounter5h (newValue writeMask : Word) -- 0xC85, R237
  | csrHpmcounter6h (newValue writeMask : Word) -- 0xC86, R237
  | csrHpmcounter7h (newValue writeMask : Word) -- 0xC87, R237
  | csrHpmcounter8h (newValue writeMask : Word) -- 0xC88, R237
  | csrHpmcounter9h (newValue writeMask : Word) -- 0xC89, R237
  | csrHpmcounter10h (newValue writeMask : Word) -- 0xC8A, R237
  | csrHpmcounter11h (newValue writeMask : Word) -- 0xC8B, R237
  | csrHpmcounter12h (newValue writeMask : Word) -- 0xC8C, R237
  | csrHpmcounter13h (newValue writeMask : Word) -- 0xC8D, R237
  | csrHpmcounter14h (newValue writeMask : Word) -- 0xC8E, R237
  | csrHpmcounter15h (newValue writeMask : Word) -- 0xC8F, R237
  | csrHpmcounter16h (newValue writeMask : Word) -- 0xC90, R237
  | csrHpmcounter17h (newValue writeMask : Word) -- 0xC91, R237
  | csrHpmcounter18h (newValue writeMask : Word) -- 0xC92, R237
  | csrHpmcounter19h (newValue writeMask : Word) -- 0xC93, R237
  | csrHpmcounter20h (newValue writeMask : Word) -- 0xC94, R237
  | csrHpmcounter21h (newValue writeMask : Word) -- 0xC95, R237
  | csrHpmcounter22h (newValue writeMask : Word) -- 0xC96, R237
  | csrHpmcounter23h (newValue writeMask : Word) -- 0xC97, R237
  | csrHpmcounter24h (newValue writeMask : Word) -- 0xC98, R237
  | csrHpmcounter25h (newValue writeMask : Word) -- 0xC99, R237
  | csrHpmcounter26h (newValue writeMask : Word) -- 0xC9A, R237
  | csrHpmcounter27h (newValue writeMask : Word) -- 0xC9B, R237
  | csrHpmcounter28h (newValue writeMask : Word) -- 0xC9C, R237
  | csrHpmcounter29h (newValue writeMask : Word) -- 0xC9D, R237
  | csrHpmcounter30h (newValue writeMask : Word) -- 0xC9E, R237
  | csrHpmcounter31h (newValue writeMask : Word) -- 0xC9F, R237
  | csrMvendorid (newValue writeMask : Word) -- 0xF11, R231
  | csrMarchid (newValue writeMask : Word) -- 0xF12, R232
  | csrMimpid (newValue writeMask : Word) -- 0xF13, R233
  | csrMhartid (newValue writeMask : Word) -- 0xF14, R234
  | csrFflagsUserBuild (newValue writeMask : Word) -- 0x001, R141
  | csrFrmUserBuild (newValue writeMask : Word) -- 0x002, R141
  | csrFcsrUserBuild (newValue writeMask : Word) -- 0x003, R141
  | csrCycleUserBuild (newValue writeMask : Word) -- 0xC00, R141
  | csrTimeUserBuild (newValue writeMask : Word) -- 0xC01, R141
  | csrInstretUserBuild (newValue writeMask : Word) -- 0xC02, R141
  | csrCyclehUserBuild (newValue writeMask : Word) -- 0xC80, R141
  | csrTimehUserBuild (newValue writeMask : Word) -- 0xC81, R141
  | csrInstrethUserBuild (newValue writeMask : Word) -- 0xC82, R141
deriving DecidableEq, Repr

end Sys2Proof
end

