-- ==== Sys2Proof/WellFormed.lean ====
section
/-! DEFINITION. When an instruction can be presented to a machine of a given configuration: its operands are machine
words (R74), and, for a register number that both builds bind, the row is the one of the machine's build (R141). -/

namespace Sys2Proof

/-- Both operands of a call are XLEN bits wide (R74: "machine words"); the fields of a CSR instruction always fit. -/
def Instr.operandsFit (x : Xlen) : Instr → Bool
  | .csrrw _ _ _ | .csrrs _ _ _ | .csrrc _ _ _ | .csrrwi _ _ _ | .csrrsi _ _ _ | .csrrci _ _ _ => true
  | .csrFflags nv wm | .csrFrm nv wm | .csrFcsr nv wm | .csrSstatus nv wm | .csrSie nv wm | .csrStvec nv wm
  | .csrScounteren nv wm | .csrSscratch nv wm | .csrSepc nv wm | .csrScause nv wm | .csrSbadaddr nv wm
  | .csrSip nv wm | .csrSatp nv wm | .csrMstatus nv wm | .csrMisa nv wm | .csrMedeleg nv wm | .csrMideleg nv wm
  | .csrMie nv wm | .csrMtvec nv wm | .csrMcounteren nv wm | .csrMucounteren nv wm | .csrMscounteren nv wm
  | .csrMhpmevent3 nv wm | .csrMhpmevent4 nv wm | .csrMhpmevent5 nv wm | .csrMhpmevent6 nv wm | .csrMhpmevent7 nv wm
  | .csrMhpmevent8 nv wm | .csrMhpmevent9 nv wm | .csrMhpmevent10 nv wm | .csrMhpmevent11 nv wm
  | .csrMhpmevent12 nv wm | .csrMhpmevent13 nv wm | .csrMhpmevent14 nv wm | .csrMhpmevent15 nv wm
  | .csrMhpmevent16 nv wm | .csrMhpmevent17 nv wm | .csrMhpmevent18 nv wm | .csrMhpmevent19 nv wm
  | .csrMhpmevent20 nv wm | .csrMhpmevent21 nv wm | .csrMhpmevent22 nv wm | .csrMhpmevent23 nv wm
  | .csrMhpmevent24 nv wm | .csrMhpmevent25 nv wm | .csrMhpmevent26 nv wm | .csrMhpmevent27 nv wm
  | .csrMhpmevent28 nv wm | .csrMhpmevent29 nv wm | .csrMhpmevent30 nv wm | .csrMhpmevent31 nv wm
  | .csrMscratch nv wm | .csrMepc nv wm | .csrMcause nv wm | .csrMbadaddr nv wm | .csrMip nv wm | .csrPmpcfg0 nv wm
  | .csrPmpcfg1 nv wm | .csrPmpcfg2 nv wm | .csrPmpcfg3 nv wm | .csrPmpaddr0 nv wm | .csrPmpaddr1 nv wm
  | .csrPmpaddr2 nv wm | .csrPmpaddr3 nv wm | .csrPmpaddr4 nv wm | .csrPmpaddr5 nv wm | .csrPmpaddr6 nv wm
  | .csrPmpaddr7 nv wm | .csrPmpaddr8 nv wm | .csrPmpaddr9 nv wm | .csrPmpaddr10 nv wm | .csrPmpaddr11 nv wm
  | .csrPmpaddr12 nv wm | .csrPmpaddr13 nv wm | .csrPmpaddr14 nv wm | .csrPmpaddr15 nv wm | .csrMcycle nv wm
  | .csrMinstret nv wm | .csrMhpmcounter3 nv wm | .csrMhpmcounter4 nv wm | .csrMhpmcounter5 nv wm
  | .csrMhpmcounter6 nv wm | .csrMhpmcounter7 nv wm | .csrMhpmcounter8 nv wm | .csrMhpmcounter9 nv wm
  | .csrMhpmcounter10 nv wm | .csrMhpmcounter11 nv wm | .csrMhpmcounter12 nv wm | .csrMhpmcounter13 nv wm
  | .csrMhpmcounter14 nv wm | .csrMhpmcounter15 nv wm | .csrMhpmcounter16 nv wm | .csrMhpmcounter17 nv wm
  | .csrMhpmcounter18 nv wm | .csrMhpmcounter19 nv wm | .csrMhpmcounter20 nv wm | .csrMhpmcounter21 nv wm
  | .csrMhpmcounter22 nv wm | .csrMhpmcounter23 nv wm | .csrMhpmcounter24 nv wm | .csrMhpmcounter25 nv wm
  | .csrMhpmcounter26 nv wm | .csrMhpmcounter27 nv wm | .csrMhpmcounter28 nv wm | .csrMhpmcounter29 nv wm
  | .csrMhpmcounter30 nv wm | .csrMhpmcounter31 nv wm | .csrMcycleh nv wm | .csrMinstreth nv wm
  | .csrMhpmcounter3h nv wm | .csrMhpmcounter4h nv wm | .csrMhpmcounter5h nv wm | .csrMhpmcounter6h nv wm
  | .csrMhpmcounter7h nv wm | .csrMhpmcounter8h nv wm | .csrMhpmcounter9h nv wm | .csrMhpmcounter10h nv wm
  | .csrMhpmcounter11h nv wm | .csrMhpmcounter12h nv wm | .csrMhpmcounter13h nv wm | .csrMhpmcounter14h nv wm
  | .csrMhpmcounter15h nv wm | .csrMhpmcounter16h nv wm | .csrMhpmcounter17h nv wm | .csrMhpmcounter18h nv wm
  | .csrMhpmcounter19h nv wm | .csrMhpmcounter20h nv wm | .csrMhpmcounter21h nv wm | .csrMhpmcounter22h nv wm
  | .csrMhpmcounter23h nv wm | .csrMhpmcounter24h nv wm | .csrMhpmcounter25h nv wm | .csrMhpmcounter26h nv wm
  | .csrMhpmcounter27h nv wm | .csrMhpmcounter28h nv wm | .csrMhpmcounter29h nv wm | .csrMhpmcounter30h nv wm
  | .csrMhpmcounter31h nv wm | .csrCycle nv wm | .csrInstret nv wm | .csrHpmcounter3 nv wm | .csrHpmcounter4 nv wm
  | .csrHpmcounter5 nv wm | .csrHpmcounter6 nv wm | .csrHpmcounter7 nv wm | .csrHpmcounter8 nv wm
  | .csrHpmcounter9 nv wm | .csrHpmcounter10 nv wm | .csrHpmcounter11 nv wm | .csrHpmcounter12 nv wm
  | .csrHpmcounter13 nv wm | .csrHpmcounter14 nv wm | .csrHpmcounter15 nv wm | .csrHpmcounter16 nv wm
  | .csrHpmcounter17 nv wm | .csrHpmcounter18 nv wm | .csrHpmcounter19 nv wm | .csrHpmcounter20 nv wm
  | .csrHpmcounter21 nv wm | .csrHpmcounter22 nv wm | .csrHpmcounter23 nv wm | .csrHpmcounter24 nv wm
  | .csrHpmcounter25 nv wm | .csrHpmcounter26 nv wm | .csrHpmcounter27 nv wm | .csrHpmcounter28 nv wm
  | .csrHpmcounter29 nv wm | .csrHpmcounter30 nv wm | .csrHpmcounter31 nv wm | .csrCycleh nv wm | .csrInstreth nv wm
  | .csrHpmcounter3h nv wm | .csrHpmcounter4h nv wm | .csrHpmcounter5h nv wm | .csrHpmcounter6h nv wm
  | .csrHpmcounter7h nv wm | .csrHpmcounter8h nv wm | .csrHpmcounter9h nv wm | .csrHpmcounter10h nv wm
  | .csrHpmcounter11h nv wm | .csrHpmcounter12h nv wm | .csrHpmcounter13h nv wm | .csrHpmcounter14h nv wm
  | .csrHpmcounter15h nv wm | .csrHpmcounter16h nv wm | .csrHpmcounter17h nv wm | .csrHpmcounter18h nv wm
  | .csrHpmcounter19h nv wm | .csrHpmcounter20h nv wm | .csrHpmcounter21h nv wm | .csrHpmcounter22h nv wm
  | .csrHpmcounter23h nv wm | .csrHpmcounter24h nv wm | .csrHpmcounter25h nv wm | .csrHpmcounter26h nv wm
  | .csrHpmcounter27h nv wm | .csrHpmcounter28h nv wm | .csrHpmcounter29h nv wm | .csrHpmcounter30h nv wm
  | .csrHpmcounter31h nv wm | .csrMvendorid nv wm | .csrMarchid nv wm | .csrMimpid nv wm | .csrMhartid nv wm
  | .csrFflagsUserBuild nv wm | .csrFrmUserBuild nv wm | .csrFcsrUserBuild nv wm | .csrCycleUserBuild nv wm
  | .csrTimeUserBuild nv wm | .csrInstretUserBuild nv wm | .csrCyclehUserBuild nv wm | .csrTimehUserBuild nv wm
  | .csrInstrethUserBuild nv wm =>
    nv.fits x && wm.fits x

/-- The row is the one its number decodes to on this build. Only the seven numbers that have a row for each build (R99,
R141) tell the builds apart; a number with one row decodes to it on either build (assumption 6). -/
def Instr.inBuild (system : Bool) : Instr → Bool
  | .csrrw _ _ _ | .csrrs _ _ _ | .csrrc _ _ _ | .csrrwi _ _ _ | .csrrsi _ _ _ | .csrrci _ _ _ => true
  | .csrFflags _ _ | .csrFrm _ _ | .csrFcsr _ _ | .csrCycle _ _ | .csrInstret _ _ | .csrCycleh _ _ | .csrInstreth _ _ => system
  | .csrFflagsUserBuild _ _ | .csrFrmUserBuild _ _ | .csrFcsrUserBuild _ _ | .csrCycleUserBuild _ _
  | .csrInstretUserBuild _ _ | .csrCyclehUserBuild _ _ | .csrInstrethUserBuild _ _ => !system
  | .csrSstatus _ _ | .csrSie _ _ | .csrStvec _ _ | .csrScounteren _ _ | .csrSscratch _ _ | .csrSepc _ _
  | .csrScause _ _ | .csrSbadaddr _ _ | .csrSip _ _ | .csrSatp _ _ | .csrMstatus _ _ | .csrMisa _ _ | .csrMedeleg _ _
  | .csrMideleg _ _ | .csrMie _ _ | .csrMtvec _ _ | .csrMcounteren _ _ | .csrMucounteren _ _ | .csrMscounteren _ _
  | .csrMhpmevent3 _ _ | .csrMhpmevent4 _ _ | .csrMhpmevent5 _ _ | .csrMhpmevent6 _ _ | .csrMhpmevent7 _ _
  | .csrMhpmevent8 _ _ | .csrMhpmevent9 _ _ | .csrMhpmevent10 _ _ | .csrMhpmevent11 _ _ | .csrMhpmevent12 _ _
  | .csrMhpmevent13 _ _ | .csrMhpmevent14 _ _ | .csrMhpmevent15 _ _ | .csrMhpmevent16 _ _ | .csrMhpmevent17 _ _
  | .csrMhpmevent18 _ _ | .csrMhpmevent19 _ _ | .csrMhpmevent20 _ _ | .csrMhpmevent21 _ _ | .csrMhpmevent22 _ _
  | .csrMhpmevent23 _ _ | .csrMhpmevent24 _ _ | .csrMhpmevent25 _ _ | .csrMhpmevent26 _ _ | .csrMhpmevent27 _ _
  | .csrMhpmevent28 _ _ | .csrMhpmevent29 _ _ | .csrMhpmevent30 _ _ | .csrMhpmevent31 _ _ | .csrMscratch _ _
  | .csrMepc _ _ | .csrMcause _ _ | .csrMbadaddr _ _ | .csrMip _ _ | .csrPmpcfg0 _ _ | .csrPmpcfg1 _ _
  | .csrPmpcfg2 _ _ | .csrPmpcfg3 _ _ | .csrPmpaddr0 _ _ | .csrPmpaddr1 _ _ | .csrPmpaddr2 _ _ | .csrPmpaddr3 _ _
  | .csrPmpaddr4 _ _ | .csrPmpaddr5 _ _ | .csrPmpaddr6 _ _ | .csrPmpaddr7 _ _ | .csrPmpaddr8 _ _ | .csrPmpaddr9 _ _
  | .csrPmpaddr10 _ _ | .csrPmpaddr11 _ _ | .csrPmpaddr12 _ _ | .csrPmpaddr13 _ _ | .csrPmpaddr14 _ _
  | .csrPmpaddr15 _ _ | .csrMcycle _ _ | .csrMinstret _ _ | .csrMhpmcounter3 _ _ | .csrMhpmcounter4 _ _
  | .csrMhpmcounter5 _ _ | .csrMhpmcounter6 _ _ | .csrMhpmcounter7 _ _ | .csrMhpmcounter8 _ _ | .csrMhpmcounter9 _ _
  | .csrMhpmcounter10 _ _ | .csrMhpmcounter11 _ _ | .csrMhpmcounter12 _ _ | .csrMhpmcounter13 _ _
  | .csrMhpmcounter14 _ _ | .csrMhpmcounter15 _ _ | .csrMhpmcounter16 _ _ | .csrMhpmcounter17 _ _
  | .csrMhpmcounter18 _ _ | .csrMhpmcounter19 _ _ | .csrMhpmcounter20 _ _ | .csrMhpmcounter21 _ _
  | .csrMhpmcounter22 _ _ | .csrMhpmcounter23 _ _ | .csrMhpmcounter24 _ _ | .csrMhpmcounter25 _ _
  | .csrMhpmcounter26 _ _ | .csrMhpmcounter27 _ _ | .csrMhpmcounter28 _ _ | .csrMhpmcounter29 _ _
  | .csrMhpmcounter30 _ _ | .csrMhpmcounter31 _ _ | .csrMcycleh _ _ | .csrMinstreth _ _ | .csrMhpmcounter3h _ _
  | .csrMhpmcounter4h _ _ | .csrMhpmcounter5h _ _ | .csrMhpmcounter6h _ _ | .csrMhpmcounter7h _ _
  | .csrMhpmcounter8h _ _ | .csrMhpmcounter9h _ _ | .csrMhpmcounter10h _ _ | .csrMhpmcounter11h _ _
  | .csrMhpmcounter12h _ _ | .csrMhpmcounter13h _ _ | .csrMhpmcounter14h _ _ | .csrMhpmcounter15h _ _
  | .csrMhpmcounter16h _ _ | .csrMhpmcounter17h _ _ | .csrMhpmcounter18h _ _ | .csrMhpmcounter19h _ _
  | .csrMhpmcounter20h _ _ | .csrMhpmcounter21h _ _ | .csrMhpmcounter22h _ _ | .csrMhpmcounter23h _ _
  | .csrMhpmcounter24h _ _ | .csrMhpmcounter25h _ _ | .csrMhpmcounter26h _ _ | .csrMhpmcounter27h _ _
  | .csrMhpmcounter28h _ _ | .csrMhpmcounter29h _ _ | .csrMhpmcounter30h _ _ | .csrMhpmcounter31h _ _
  | .csrHpmcounter3 _ _ | .csrHpmcounter4 _ _ | .csrHpmcounter5 _ _ | .csrHpmcounter6 _ _ | .csrHpmcounter7 _ _
  | .csrHpmcounter8 _ _ | .csrHpmcounter9 _ _ | .csrHpmcounter10 _ _ | .csrHpmcounter11 _ _ | .csrHpmcounter12 _ _
  | .csrHpmcounter13 _ _ | .csrHpmcounter14 _ _ | .csrHpmcounter15 _ _ | .csrHpmcounter16 _ _ | .csrHpmcounter17 _ _
  | .csrHpmcounter18 _ _ | .csrHpmcounter19 _ _ | .csrHpmcounter20 _ _ | .csrHpmcounter21 _ _ | .csrHpmcounter22 _ _
  | .csrHpmcounter23 _ _ | .csrHpmcounter24 _ _ | .csrHpmcounter25 _ _ | .csrHpmcounter26 _ _ | .csrHpmcounter27 _ _
  | .csrHpmcounter28 _ _ | .csrHpmcounter29 _ _ | .csrHpmcounter30 _ _ | .csrHpmcounter31 _ _ | .csrHpmcounter3h _ _
  | .csrHpmcounter4h _ _ | .csrHpmcounter5h _ _ | .csrHpmcounter6h _ _ | .csrHpmcounter7h _ _ | .csrHpmcounter8h _ _
  | .csrHpmcounter9h _ _ | .csrHpmcounter10h _ _ | .csrHpmcounter11h _ _ | .csrHpmcounter12h _ _
  | .csrHpmcounter13h _ _ | .csrHpmcounter14h _ _ | .csrHpmcounter15h _ _ | .csrHpmcounter16h _ _
  | .csrHpmcounter17h _ _ | .csrHpmcounter18h _ _ | .csrHpmcounter19h _ _ | .csrHpmcounter20h _ _
  | .csrHpmcounter21h _ _ | .csrHpmcounter22h _ _ | .csrHpmcounter23h _ _ | .csrHpmcounter24h _ _
  | .csrHpmcounter25h _ _ | .csrHpmcounter26h _ _ | .csrHpmcounter27h _ _ | .csrHpmcounter28h _ _
  | .csrHpmcounter29h _ _ | .csrHpmcounter30h _ _ | .csrHpmcounter31h _ _ | .csrMvendorid _ _ | .csrMarchid _ _
  | .csrMimpid _ _ | .csrMhartid _ _ | .csrTimeUserBuild _ _ | .csrTimehUserBuild _ _ => true

/-- The instruction can be presented to a machine with this configuration. -/
def Instr.wf (c : Config) (i : Instr) : Bool := i.operandsFit c.xlen && i.inBuild c.system

end Sys2Proof
end

