-- ==== Sys2Proof/Decode.lean ====
section
/-! DEFINITION. Decoding of what the execution engine presents: the instruction word of a CSR instruction (R95), or a
register number with the two operands of a call (R90, R94, R99). Total; every word that is no instruction of the opcode
table is rejected by name. The encoder after it is written from the same tables. -/

namespace Sys2Proof

/-- Why a port word is no instruction of the opcode table. -/
inductive DecodeError
  /-- `inst[6:0]` is not SYSTEM, 0x73 (R95). -/
  | notSystemOpcode
  /-- funct3 000: the other SYSTEM instructions, outside the block (R95). -/
  | otherSystemInstruction
  /-- funct3 100 is reserved (R95). -/
  | reservedFunct3
  /-- A call of a register number that no row of the table has (R93, R100). -/
  | unboundNumber
deriving DecidableEq, Repr

/-- The opcode field `inst[6:0]` of R95. -/
def opcodeField (w : BitVec 32) : BitVec 7 := w.extractLsb' 0 7

/-- The field `rd = inst[11:7]` of R95. -/
def rdField (w : BitVec 32) : BitVec 5 := w.extractLsb' 7 5

/-- The field `funct3 = inst[14:12]` of R95. -/
def funct3Field (w : BitVec 32) : BitVec 3 := w.extractLsb' 12 3

/-- The field `rs1/uimm = inst[19:15]` of R95. -/
def rs1Field (w : BitVec 32) : BitVec 5 := w.extractLsb' 15 5

/-- The field `csr = inst[31:20]` of R95. -/
def csrField (w : BitVec 32) : BitVec 12 := w.extractLsb' 20 12

/-- The opcode SYSTEM, 0b1110011 (R95). -/
def systemOpcode : BitVec 7 := 0x73

/-- A CSR instruction from its word (R95). -/
def decodeInsn (w : BitVec 32) : Except DecodeError Instr :=
  if opcodeField w = systemOpcode then
    match (funct3Field w).toNat with
    | 1 => .ok (.csrrw (csrField w) (rs1Field w) (rdField w))
    | 2 => .ok (.csrrs (csrField w) (rs1Field w) (rdField w))
    | 3 => .ok (.csrrc (csrField w) (rs1Field w) (rdField w))
    | 5 => .ok (.csrrwi (csrField w) (rs1Field w) (rdField w))
    | 6 => .ok (.csrrsi (csrField w) (rs1Field w) (rdField w))
    | 7 => .ok (.csrrci (csrField w) (rs1Field w) (rdField w))
    | 4 => .error .reservedFunct3
    | _ => .error .otherSystemInstruction
  else .error .notSystemOpcode

/-- The rows of the full build whose number has these top four bits `csrno[11:8]` (R99). -/
def fullRows : Nat → List (Nat × (Word → Word → Instr))
  | 0x0 =>
    [(0x001, .csrFflags), (0x002, .csrFrm), (0x003, .csrFcsr)]
  | 0x1 =>
    [(0x100, .csrSstatus), (0x104, .csrSie), (0x105, .csrStvec), (0x106, .csrScounteren), (0x140, .csrSscratch),
     (0x141, .csrSepc), (0x142, .csrScause), (0x143, .csrSbadaddr), (0x144, .csrSip), (0x180, .csrSatp)]
  | 0x3 =>
    [(0x300, .csrMstatus), (0x301, .csrMisa), (0x302, .csrMedeleg), (0x303, .csrMideleg), (0x304, .csrMie),
     (0x305, .csrMtvec), (0x306, .csrMcounteren), (0x320, .csrMucounteren), (0x321, .csrMscounteren),
     (0x323, .csrMhpmevent3), (0x324, .csrMhpmevent4), (0x325, .csrMhpmevent5), (0x326, .csrMhpmevent6),
     (0x327, .csrMhpmevent7), (0x328, .csrMhpmevent8), (0x329, .csrMhpmevent9), (0x32A, .csrMhpmevent10),
     (0x32B, .csrMhpmevent11), (0x32C, .csrMhpmevent12), (0x32D, .csrMhpmevent13), (0x32E, .csrMhpmevent14),
     (0x32F, .csrMhpmevent15), (0x330, .csrMhpmevent16), (0x331, .csrMhpmevent17), (0x332, .csrMhpmevent18),
     (0x333, .csrMhpmevent19), (0x334, .csrMhpmevent20), (0x335, .csrMhpmevent21), (0x336, .csrMhpmevent22)] ++
    [(0x337, .csrMhpmevent23), (0x338, .csrMhpmevent24), (0x339, .csrMhpmevent25), (0x33A, .csrMhpmevent26),
     (0x33B, .csrMhpmevent27), (0x33C, .csrMhpmevent28), (0x33D, .csrMhpmevent29), (0x33E, .csrMhpmevent30),
     (0x33F, .csrMhpmevent31), (0x340, .csrMscratch), (0x341, .csrMepc), (0x342, .csrMcause), (0x343, .csrMbadaddr),
     (0x344, .csrMip), (0x3A0, .csrPmpcfg0), (0x3A1, .csrPmpcfg1), (0x3A2, .csrPmpcfg2), (0x3A3, .csrPmpcfg3),
     (0x3B0, .csrPmpaddr0), (0x3B1, .csrPmpaddr1), (0x3B2, .csrPmpaddr2), (0x3B3, .csrPmpaddr3),
     (0x3B4, .csrPmpaddr4), (0x3B5, .csrPmpaddr5), (0x3B6, .csrPmpaddr6), (0x3B7, .csrPmpaddr7),
     (0x3B8, .csrPmpaddr8), (0x3B9, .csrPmpaddr9), (0x3BA, .csrPmpaddr10)] ++
    [(0x3BB, .csrPmpaddr11), (0x3BC, .csrPmpaddr12), (0x3BD, .csrPmpaddr13), (0x3BE, .csrPmpaddr14),
     (0x3BF, .csrPmpaddr15)]
  | 0xB =>
    [(0xB00, .csrMcycle), (0xB02, .csrMinstret), (0xB03, .csrMhpmcounter3), (0xB04, .csrMhpmcounter4),
     (0xB05, .csrMhpmcounter5), (0xB06, .csrMhpmcounter6), (0xB07, .csrMhpmcounter7), (0xB08, .csrMhpmcounter8),
     (0xB09, .csrMhpmcounter9), (0xB0A, .csrMhpmcounter10), (0xB0B, .csrMhpmcounter11), (0xB0C, .csrMhpmcounter12),
     (0xB0D, .csrMhpmcounter13), (0xB0E, .csrMhpmcounter14), (0xB0F, .csrMhpmcounter15), (0xB10, .csrMhpmcounter16),
     (0xB11, .csrMhpmcounter17), (0xB12, .csrMhpmcounter18), (0xB13, .csrMhpmcounter19), (0xB14, .csrMhpmcounter20),
     (0xB15, .csrMhpmcounter21), (0xB16, .csrMhpmcounter22), (0xB17, .csrMhpmcounter23), (0xB18, .csrMhpmcounter24),
     (0xB19, .csrMhpmcounter25), (0xB1A, .csrMhpmcounter26), (0xB1B, .csrMhpmcounter27), (0xB1C, .csrMhpmcounter28),
     (0xB1D, .csrMhpmcounter29)] ++
    [(0xB1E, .csrMhpmcounter30), (0xB1F, .csrMhpmcounter31), (0xB80, .csrMcycleh), (0xB82, .csrMinstreth),
     (0xB83, .csrMhpmcounter3h), (0xB84, .csrMhpmcounter4h), (0xB85, .csrMhpmcounter5h), (0xB86, .csrMhpmcounter6h),
     (0xB87, .csrMhpmcounter7h), (0xB88, .csrMhpmcounter8h), (0xB89, .csrMhpmcounter9h), (0xB8A, .csrMhpmcounter10h),
     (0xB8B, .csrMhpmcounter11h), (0xB8C, .csrMhpmcounter12h), (0xB8D, .csrMhpmcounter13h),
     (0xB8E, .csrMhpmcounter14h), (0xB8F, .csrMhpmcounter15h), (0xB90, .csrMhpmcounter16h),
     (0xB91, .csrMhpmcounter17h), (0xB92, .csrMhpmcounter18h), (0xB93, .csrMhpmcounter19h),
     (0xB94, .csrMhpmcounter20h), (0xB95, .csrMhpmcounter21h), (0xB96, .csrMhpmcounter22h),
     (0xB97, .csrMhpmcounter23h), (0xB98, .csrMhpmcounter24h), (0xB99, .csrMhpmcounter25h),
     (0xB9A, .csrMhpmcounter26h), (0xB9B, .csrMhpmcounter27h)] ++
    [(0xB9C, .csrMhpmcounter28h), (0xB9D, .csrMhpmcounter29h), (0xB9E, .csrMhpmcounter30h),
     (0xB9F, .csrMhpmcounter31h)]
  | 0xC =>
    [(0xC00, .csrCycle), (0xC02, .csrInstret), (0xC03, .csrHpmcounter3), (0xC04, .csrHpmcounter4),
     (0xC05, .csrHpmcounter5), (0xC06, .csrHpmcounter6), (0xC07, .csrHpmcounter7), (0xC08, .csrHpmcounter8),
     (0xC09, .csrHpmcounter9), (0xC0A, .csrHpmcounter10), (0xC0B, .csrHpmcounter11), (0xC0C, .csrHpmcounter12),
     (0xC0D, .csrHpmcounter13), (0xC0E, .csrHpmcounter14), (0xC0F, .csrHpmcounter15), (0xC10, .csrHpmcounter16),
     (0xC11, .csrHpmcounter17), (0xC12, .csrHpmcounter18), (0xC13, .csrHpmcounter19), (0xC14, .csrHpmcounter20),
     (0xC15, .csrHpmcounter21), (0xC16, .csrHpmcounter22), (0xC17, .csrHpmcounter23), (0xC18, .csrHpmcounter24),
     (0xC19, .csrHpmcounter25), (0xC1A, .csrHpmcounter26), (0xC1B, .csrHpmcounter27), (0xC1C, .csrHpmcounter28),
     (0xC1D, .csrHpmcounter29)] ++
    [(0xC1E, .csrHpmcounter30), (0xC1F, .csrHpmcounter31), (0xC80, .csrCycleh), (0xC82, .csrInstreth),
     (0xC83, .csrHpmcounter3h), (0xC84, .csrHpmcounter4h), (0xC85, .csrHpmcounter5h), (0xC86, .csrHpmcounter6h),
     (0xC87, .csrHpmcounter7h), (0xC88, .csrHpmcounter8h), (0xC89, .csrHpmcounter9h), (0xC8A, .csrHpmcounter10h),
     (0xC8B, .csrHpmcounter11h), (0xC8C, .csrHpmcounter12h), (0xC8D, .csrHpmcounter13h), (0xC8E, .csrHpmcounter14h),
     (0xC8F, .csrHpmcounter15h), (0xC90, .csrHpmcounter16h), (0xC91, .csrHpmcounter17h), (0xC92, .csrHpmcounter18h),
     (0xC93, .csrHpmcounter19h), (0xC94, .csrHpmcounter20h), (0xC95, .csrHpmcounter21h), (0xC96, .csrHpmcounter22h),
     (0xC97, .csrHpmcounter23h), (0xC98, .csrHpmcounter24h), (0xC99, .csrHpmcounter25h), (0xC9A, .csrHpmcounter26h),
     (0xC9B, .csrHpmcounter27h)] ++
    [(0xC9C, .csrHpmcounter28h), (0xC9D, .csrHpmcounter29h), (0xC9E, .csrHpmcounter30h), (0xC9F, .csrHpmcounter31h)]
  | 0xF =>
    [(0xF11, .csrMvendorid), (0xF12, .csrMarchid), (0xF13, .csrMimpid), (0xF14, .csrMhartid)]
  | _ => []

/-- The rows of the build without the privilege layer (R141). -/
def userBuildRows : List (Nat × (Word → Word → Instr)) :=
    [(0x001, .csrFflagsUserBuild), (0x002, .csrFrmUserBuild), (0x003, .csrFcsrUserBuild), (0xC00, .csrCycleUserBuild),
     (0xC01, .csrTimeUserBuild), (0xC02, .csrInstretUserBuild), (0xC80, .csrCyclehUserBuild),
     (0xC81, .csrTimehUserBuild), (0xC82, .csrInstrethUserBuild)]

/-- The instruction a row list gives to a register number. -/
def rowOf (rows : List (Nat × (Word → Word → Instr))) (n : Nat) (newValue writeMask : Word) : Option Instr :=
  (rows.find? fun r => r.1 == n).map fun r => r.2 newValue writeMask

/-- The row of a register number in a build: the build's own row first, then the other build's (assumption 6). -/
def decodeNumber (system : Bool) (csrno : BitVec 12) (newValue writeMask : Word) : Option Instr :=
  let full := rowOf (fullRows (csrno.toNat / 256)) csrno.toNat newValue writeMask
  let user := rowOf userBuildRows csrno.toNat newValue writeMask
  if system then full.or user else user.or full

/-- The instruction that a machine of this build reads from what is presented. -/
def decode (system : Bool) : PortWord → Except DecodeError Instr
  | .insn w => decodeInsn w
  | .call csrno newValue writeMask =>
    match decodeNumber system csrno newValue writeMask with
    | some i => .ok i
    | none => .error .unboundNumber

/-- The word of a CSR instruction, `csr | rs1/uimm | funct3 | rd | 0x73` (R95). -/
def encodeInsn (csr : BitVec 12) (rs1 : BitVec 5) (funct3 : BitVec 3) (rd : BitVec 5) : BitVec 32 :=
  csr ++ rs1 ++ funct3 ++ rd ++ systemOpcode

/-- What an instruction is presented as (R95 for the six CSR instructions, R94 and R99 or R141 for a register number). -/
def encode : Instr → PortWord
  | .csrrw csr rs1 rd => .insn (encodeInsn csr rs1 1 rd)
  | .csrrs csr rs1 rd => .insn (encodeInsn csr rs1 2 rd)
  | .csrrc csr rs1 rd => .insn (encodeInsn csr rs1 3 rd)
  | .csrrwi csr uimm rd => .insn (encodeInsn csr uimm 5 rd)
  | .csrrsi csr uimm rd => .insn (encodeInsn csr uimm 6 rd)
  | .csrrci csr uimm rd => .insn (encodeInsn csr uimm 7 rd)
  | .csrFflags nv wm => .call 0x001 nv wm
  | .csrFrm nv wm => .call 0x002 nv wm
  | .csrFcsr nv wm => .call 0x003 nv wm
  | .csrSstatus nv wm => .call 0x100 nv wm
  | .csrSie nv wm => .call 0x104 nv wm
  | .csrStvec nv wm => .call 0x105 nv wm
  | .csrScounteren nv wm => .call 0x106 nv wm
  | .csrSscratch nv wm => .call 0x140 nv wm
  | .csrSepc nv wm => .call 0x141 nv wm
  | .csrScause nv wm => .call 0x142 nv wm
  | .csrSbadaddr nv wm => .call 0x143 nv wm
  | .csrSip nv wm => .call 0x144 nv wm
  | .csrSatp nv wm => .call 0x180 nv wm
  | .csrMstatus nv wm => .call 0x300 nv wm
  | .csrMisa nv wm => .call 0x301 nv wm
  | .csrMedeleg nv wm => .call 0x302 nv wm
  | .csrMideleg nv wm => .call 0x303 nv wm
  | .csrMie nv wm => .call 0x304 nv wm
  | .csrMtvec nv wm => .call 0x305 nv wm
  | .csrMcounteren nv wm => .call 0x306 nv wm
  | .csrMucounteren nv wm => .call 0x320 nv wm
  | .csrMscounteren nv wm => .call 0x321 nv wm
  | .csrMhpmevent3 nv wm => .call 0x323 nv wm
  | .csrMhpmevent4 nv wm => .call 0x324 nv wm
  | .csrMhpmevent5 nv wm => .call 0x325 nv wm
  | .csrMhpmevent6 nv wm => .call 0x326 nv wm
  | .csrMhpmevent7 nv wm => .call 0x327 nv wm
  | .csrMhpmevent8 nv wm => .call 0x328 nv wm
  | .csrMhpmevent9 nv wm => .call 0x329 nv wm
  | .csrMhpmevent10 nv wm => .call 0x32A nv wm
  | .csrMhpmevent11 nv wm => .call 0x32B nv wm
  | .csrMhpmevent12 nv wm => .call 0x32C nv wm
  | .csrMhpmevent13 nv wm => .call 0x32D nv wm
  | .csrMhpmevent14 nv wm => .call 0x32E nv wm
  | .csrMhpmevent15 nv wm => .call 0x32F nv wm
  | .csrMhpmevent16 nv wm => .call 0x330 nv wm
  | .csrMhpmevent17 nv wm => .call 0x331 nv wm
  | .csrMhpmevent18 nv wm => .call 0x332 nv wm
  | .csrMhpmevent19 nv wm => .call 0x333 nv wm
  | .csrMhpmevent20 nv wm => .call 0x334 nv wm
  | .csrMhpmevent21 nv wm => .call 0x335 nv wm
  | .csrMhpmevent22 nv wm => .call 0x336 nv wm
  | .csrMhpmevent23 nv wm => .call 0x337 nv wm
  | .csrMhpmevent24 nv wm => .call 0x338 nv wm
  | .csrMhpmevent25 nv wm => .call 0x339 nv wm
  | .csrMhpmevent26 nv wm => .call 0x33A nv wm
  | .csrMhpmevent27 nv wm => .call 0x33B nv wm
  | .csrMhpmevent28 nv wm => .call 0x33C nv wm
  | .csrMhpmevent29 nv wm => .call 0x33D nv wm
  | .csrMhpmevent30 nv wm => .call 0x33E nv wm
  | .csrMhpmevent31 nv wm => .call 0x33F nv wm
  | .csrMscratch nv wm => .call 0x340 nv wm
  | .csrMepc nv wm => .call 0x341 nv wm
  | .csrMcause nv wm => .call 0x342 nv wm
  | .csrMbadaddr nv wm => .call 0x343 nv wm
  | .csrMip nv wm => .call 0x344 nv wm
  | .csrPmpcfg0 nv wm => .call 0x3A0 nv wm
  | .csrPmpcfg1 nv wm => .call 0x3A1 nv wm
  | .csrPmpcfg2 nv wm => .call 0x3A2 nv wm
  | .csrPmpcfg3 nv wm => .call 0x3A3 nv wm
  | .csrPmpaddr0 nv wm => .call 0x3B0 nv wm
  | .csrPmpaddr1 nv wm => .call 0x3B1 nv wm
  | .csrPmpaddr2 nv wm => .call 0x3B2 nv wm
  | .csrPmpaddr3 nv wm => .call 0x3B3 nv wm
  | .csrPmpaddr4 nv wm => .call 0x3B4 nv wm
  | .csrPmpaddr5 nv wm => .call 0x3B5 nv wm
  | .csrPmpaddr6 nv wm => .call 0x3B6 nv wm
  | .csrPmpaddr7 nv wm => .call 0x3B7 nv wm
  | .csrPmpaddr8 nv wm => .call 0x3B8 nv wm
  | .csrPmpaddr9 nv wm => .call 0x3B9 nv wm
  | .csrPmpaddr10 nv wm => .call 0x3BA nv wm
  | .csrPmpaddr11 nv wm => .call 0x3BB nv wm
  | .csrPmpaddr12 nv wm => .call 0x3BC nv wm
  | .csrPmpaddr13 nv wm => .call 0x3BD nv wm
  | .csrPmpaddr14 nv wm => .call 0x3BE nv wm
  | .csrPmpaddr15 nv wm => .call 0x3BF nv wm
  | .csrMcycle nv wm => .call 0xB00 nv wm
  | .csrMinstret nv wm => .call 0xB02 nv wm
  | .csrMhpmcounter3 nv wm => .call 0xB03 nv wm
  | .csrMhpmcounter4 nv wm => .call 0xB04 nv wm
  | .csrMhpmcounter5 nv wm => .call 0xB05 nv wm
  | .csrMhpmcounter6 nv wm => .call 0xB06 nv wm
  | .csrMhpmcounter7 nv wm => .call 0xB07 nv wm
  | .csrMhpmcounter8 nv wm => .call 0xB08 nv wm
  | .csrMhpmcounter9 nv wm => .call 0xB09 nv wm
  | .csrMhpmcounter10 nv wm => .call 0xB0A nv wm
  | .csrMhpmcounter11 nv wm => .call 0xB0B nv wm
  | .csrMhpmcounter12 nv wm => .call 0xB0C nv wm
  | .csrMhpmcounter13 nv wm => .call 0xB0D nv wm
  | .csrMhpmcounter14 nv wm => .call 0xB0E nv wm
  | .csrMhpmcounter15 nv wm => .call 0xB0F nv wm
  | .csrMhpmcounter16 nv wm => .call 0xB10 nv wm
  | .csrMhpmcounter17 nv wm => .call 0xB11 nv wm
  | .csrMhpmcounter18 nv wm => .call 0xB12 nv wm
  | .csrMhpmcounter19 nv wm => .call 0xB13 nv wm
  | .csrMhpmcounter20 nv wm => .call 0xB14 nv wm
  | .csrMhpmcounter21 nv wm => .call 0xB15 nv wm
  | .csrMhpmcounter22 nv wm => .call 0xB16 nv wm
  | .csrMhpmcounter23 nv wm => .call 0xB17 nv wm
  | .csrMhpmcounter24 nv wm => .call 0xB18 nv wm
  | .csrMhpmcounter25 nv wm => .call 0xB19 nv wm
  | .csrMhpmcounter26 nv wm => .call 0xB1A nv wm
  | .csrMhpmcounter27 nv wm => .call 0xB1B nv wm
  | .csrMhpmcounter28 nv wm => .call 0xB1C nv wm
  | .csrMhpmcounter29 nv wm => .call 0xB1D nv wm
  | .csrMhpmcounter30 nv wm => .call 0xB1E nv wm
  | .csrMhpmcounter31 nv wm => .call 0xB1F nv wm
  | .csrMcycleh nv wm => .call 0xB80 nv wm
  | .csrMinstreth nv wm => .call 0xB82 nv wm
  | .csrMhpmcounter3h nv wm => .call 0xB83 nv wm
  | .csrMhpmcounter4h nv wm => .call 0xB84 nv wm
  | .csrMhpmcounter5h nv wm => .call 0xB85 nv wm
  | .csrMhpmcounter6h nv wm => .call 0xB86 nv wm
  | .csrMhpmcounter7h nv wm => .call 0xB87 nv wm
  | .csrMhpmcounter8h nv wm => .call 0xB88 nv wm
  | .csrMhpmcounter9h nv wm => .call 0xB89 nv wm
  | .csrMhpmcounter10h nv wm => .call 0xB8A nv wm
  | .csrMhpmcounter11h nv wm => .call 0xB8B nv wm
  | .csrMhpmcounter12h nv wm => .call 0xB8C nv wm
  | .csrMhpmcounter13h nv wm => .call 0xB8D nv wm
  | .csrMhpmcounter14h nv wm => .call 0xB8E nv wm
  | .csrMhpmcounter15h nv wm => .call 0xB8F nv wm
  | .csrMhpmcounter16h nv wm => .call 0xB90 nv wm
  | .csrMhpmcounter17h nv wm => .call 0xB91 nv wm
  | .csrMhpmcounter18h nv wm => .call 0xB92 nv wm
  | .csrMhpmcounter19h nv wm => .call 0xB93 nv wm
  | .csrMhpmcounter20h nv wm => .call 0xB94 nv wm
  | .csrMhpmcounter21h nv wm => .call 0xB95 nv wm
  | .csrMhpmcounter22h nv wm => .call 0xB96 nv wm
  | .csrMhpmcounter23h nv wm => .call 0xB97 nv wm
  | .csrMhpmcounter24h nv wm => .call 0xB98 nv wm
  | .csrMhpmcounter25h nv wm => .call 0xB99 nv wm
  | .csrMhpmcounter26h nv wm => .call 0xB9A nv wm
  | .csrMhpmcounter27h nv wm => .call 0xB9B nv wm
  | .csrMhpmcounter28h nv wm => .call 0xB9C nv wm
  | .csrMhpmcounter29h nv wm => .call 0xB9D nv wm
  | .csrMhpmcounter30h nv wm => .call 0xB9E nv wm
  | .csrMhpmcounter31h nv wm => .call 0xB9F nv wm
  | .csrCycle nv wm => .call 0xC00 nv wm
  | .csrInstret nv wm => .call 0xC02 nv wm
  | .csrHpmcounter3 nv wm => .call 0xC03 nv wm
  | .csrHpmcounter4 nv wm => .call 0xC04 nv wm
  | .csrHpmcounter5 nv wm => .call 0xC05 nv wm
  | .csrHpmcounter6 nv wm => .call 0xC06 nv wm
  | .csrHpmcounter7 nv wm => .call 0xC07 nv wm
  | .csrHpmcounter8 nv wm => .call 0xC08 nv wm
  | .csrHpmcounter9 nv wm => .call 0xC09 nv wm
  | .csrHpmcounter10 nv wm => .call 0xC0A nv wm
  | .csrHpmcounter11 nv wm => .call 0xC0B nv wm
  | .csrHpmcounter12 nv wm => .call 0xC0C nv wm
  | .csrHpmcounter13 nv wm => .call 0xC0D nv wm
  | .csrHpmcounter14 nv wm => .call 0xC0E nv wm
  | .csrHpmcounter15 nv wm => .call 0xC0F nv wm
  | .csrHpmcounter16 nv wm => .call 0xC10 nv wm
  | .csrHpmcounter17 nv wm => .call 0xC11 nv wm
  | .csrHpmcounter18 nv wm => .call 0xC12 nv wm
  | .csrHpmcounter19 nv wm => .call 0xC13 nv wm
  | .csrHpmcounter20 nv wm => .call 0xC14 nv wm
  | .csrHpmcounter21 nv wm => .call 0xC15 nv wm
  | .csrHpmcounter22 nv wm => .call 0xC16 nv wm
  | .csrHpmcounter23 nv wm => .call 0xC17 nv wm
  | .csrHpmcounter24 nv wm => .call 0xC18 nv wm
  | .csrHpmcounter25 nv wm => .call 0xC19 nv wm
  | .csrHpmcounter26 nv wm => .call 0xC1A nv wm
  | .csrHpmcounter27 nv wm => .call 0xC1B nv wm
  | .csrHpmcounter28 nv wm => .call 0xC1C nv wm
  | .csrHpmcounter29 nv wm => .call 0xC1D nv wm
  | .csrHpmcounter30 nv wm => .call 0xC1E nv wm
  | .csrHpmcounter31 nv wm => .call 0xC1F nv wm
  | .csrCycleh nv wm => .call 0xC80 nv wm
  | .csrInstreth nv wm => .call 0xC82 nv wm
  | .csrHpmcounter3h nv wm => .call 0xC83 nv wm
  | .csrHpmcounter4h nv wm => .call 0xC84 nv wm
  | .csrHpmcounter5h nv wm => .call 0xC85 nv wm
  | .csrHpmcounter6h nv wm => .call 0xC86 nv wm
  | .csrHpmcounter7h nv wm => .call 0xC87 nv wm
  | .csrHpmcounter8h nv wm => .call 0xC88 nv wm
  | .csrHpmcounter9h nv wm => .call 0xC89 nv wm
  | .csrHpmcounter10h nv wm => .call 0xC8A nv wm
  | .csrHpmcounter11h nv wm => .call 0xC8B nv wm
  | .csrHpmcounter12h nv wm => .call 0xC8C nv wm
  | .csrHpmcounter13h nv wm => .call 0xC8D nv wm
  | .csrHpmcounter14h nv wm => .call 0xC8E nv wm
  | .csrHpmcounter15h nv wm => .call 0xC8F nv wm
  | .csrHpmcounter16h nv wm => .call 0xC90 nv wm
  | .csrHpmcounter17h nv wm => .call 0xC91 nv wm
  | .csrHpmcounter18h nv wm => .call 0xC92 nv wm
  | .csrHpmcounter19h nv wm => .call 0xC93 nv wm
  | .csrHpmcounter20h nv wm => .call 0xC94 nv wm
  | .csrHpmcounter21h nv wm => .call 0xC95 nv wm
  | .csrHpmcounter22h nv wm => .call 0xC96 nv wm
  | .csrHpmcounter23h nv wm => .call 0xC97 nv wm
  | .csrHpmcounter24h nv wm => .call 0xC98 nv wm
  | .csrHpmcounter25h nv wm => .call 0xC99 nv wm
  | .csrHpmcounter26h nv wm => .call 0xC9A nv wm
  | .csrHpmcounter27h nv wm => .call 0xC9B nv wm
  | .csrHpmcounter28h nv wm => .call 0xC9C nv wm
  | .csrHpmcounter29h nv wm => .call 0xC9D nv wm
  | .csrHpmcounter30h nv wm => .call 0xC9E nv wm
  | .csrHpmcounter31h nv wm => .call 0xC9F nv wm
  | .csrMvendorid nv wm => .call 0xF11 nv wm
  | .csrMarchid nv wm => .call 0xF12 nv wm
  | .csrMimpid nv wm => .call 0xF13 nv wm
  | .csrMhartid nv wm => .call 0xF14 nv wm
  | .csrFflagsUserBuild nv wm => .call 0x001 nv wm
  | .csrFrmUserBuild nv wm => .call 0x002 nv wm
  | .csrFcsrUserBuild nv wm => .call 0x003 nv wm
  | .csrCycleUserBuild nv wm => .call 0xC00 nv wm
  | .csrTimeUserBuild nv wm => .call 0xC01 nv wm
  | .csrInstretUserBuild nv wm => .call 0xC02 nv wm
  | .csrCyclehUserBuild nv wm => .call 0xC80 nv wm
  | .csrTimehUserBuild nv wm => .call 0xC81 nv wm
  | .csrInstrethUserBuild nv wm => .call 0xC82 nv wm

/-- The port word of a row of the opcode table: a row of 32 bits is an instruction word, a row of 12 bits (16 in whole
bytes) is a register number, its two operand words 0; the number's port is 12 bits wide (D24). -/
def tablePortWord (nbits w : Nat) : Option PortWord :=
  if nbits ≤ 16 then
    if w < 4096 then some (.call (BitVec.ofNat 12 w) 0 0) else none
  else if nbits ≤ 32 then
    if w < 4294967296 then some (.insn (BitVec.ofNat 32 w)) else none
  else none

/-- The instruction the decoder reads from a word of the opcode table, on the full build. -/
def decodeTableWord (nbits w : Nat) : Option Instr :=
  match tablePortWord nbits w with
  | some p => (decode true p).toOption
  | none => none

end Sys2Proof
end

