-- ==== Sys2Proof/Machine/Operands.lean ====
section
/-! DEFINITION. The operand forms: the fields of a register number (R90 to R92), the call shapes (R94), the merge (R128),
the width of the port (R74), and the general registers the CSR instructions name (R96). -/

namespace Sys2Proof.Machine

/-- `requiredPrivilege(csrno) = csrno[9:8]` (R91). -/
def requiredPrivilege (csrno : BitVec 12) : BitVec 2 := csrno.extractLsb' 8 2

/-- `isReadOnly(csrno) = (csrno[11:10] == 3)` (R92). -/
def isReadOnly (csrno : BitVec 12) : Bool := csrno.extractLsb' 10 2 == 3

/-- `csrno & 31`: the counter-enable bit of a counter's number (R90, R235). -/
def enableIndex (csrno : BitVec 12) : Nat := (csrno &&& 31).toNat

/-- `csrno - base`: the index of a number in its block (R214, R215). -/
def blockIndex (csrno : BitVec 12) (base : Nat) : Nat := csrno.toNat - base

/-- The two operands of a call (R94). -/
structure CallShape where
  newValue : Word
  writeMask : Word
deriving DecidableEq, Repr

/-- The unconditional write (R94). -/
def writeShape (x : Xlen) (v : Word) : CallShape := ⟨v, x.ones⟩

/-- Read-and-set (R94). -/
def setShape (x : Xlen) (bits : Word) : CallShape := ⟨x.ones, bits⟩

/-- Read-and-clear (R94). -/
def clearShape (bits : Word) : CallShape := ⟨0, bits⟩

/-- The merge of R128: `(priorValue & ~writeMask) | (newValue & writeMask)`. -/
def merge (prior newValue writeMask : Word) : Word := (prior &&& ~~~writeMask) ||| (newValue &&& writeMask)

/-- `zext_XLEN(uimm)` (R96). -/
def zextUimm (u : BitVec 5) : Word := u.setWidth 64

/-- `x[r]`: register 0 reads 0 (R96). -/
def State.readX (s : State) (r : BitVec 5) : Word := if r = 0 then 0 else s.x[r.toNat]'r.isLt

/-- `x[r] <- v`, an XLEN-bit value; a write of register 0 is discarded (R96: "if rd != 0"). -/
def State.writeX (s : State) (r : BitVec 5) (v : Word) : State :=
  if r = 0 then s else { s with x := s.x.set r.toNat (s.cfg.xlen.trunc v) r.isLt }

/-- The execution engine's program counter moves to a value of XLEN bits. -/
def State.setPc (s : State) (v : Word) : State := { s with pc := s.cfg.xlen.trunc v }

/-- The next instruction word: an instruction has 4 bytes (R95: 32 bits). -/
def State.advancePc (s : State) : State := s.setPc (s.pc + 4)

end Sys2Proof.Machine
end

