-- ==== Sys2Proof/Machine/Ops.lean ====
section
/-! DEFINITION. The operations the accessors and the meanings share: the collaborator ports (R10), the write of a field
under a mask (R174), the status word's write path (R165), the trap port (R308), taking a trap (R309) and returning from
one (R310). -/

namespace Sys2Proof.Machine

/-! ### The state's parts -/

/-- Replace the register bank. -/
def State.setBank (s : State) (b : Bank) : State := { s with bank := b }

/-- Record a collaborator event (R89). -/
def State.emit (s : State) (e : Event) : State := { s with events := s.events ++ [e] }

/-- Another free value has been drawn. -/
def State.drawn (s : State) : State := { s with draws := s.draws + 1 }

/-- No output of an access stands (R140). -/
def State.clearOutput (s : State) : State := { s with result := none, events := [] }

/-! ### Collaborator ports (R10) -/

/-- `Invalidate()` (R82, R87): the call is an event; what it does to the cache is outside the block. -/
def invalidate (s : State) : State := s.emit .invalidate

/-- `PmpCfgRead(i)` (R216): an XLEN-bit draw. -/
def pmpCfgRead (i : Nat) (s : State) : Word × State :=
  (s.cfg.xlen.trunc (Config.pmpCfgValue s.draws i), (s.drawn).emit (.pmpCfgRead i))

/-- `PmpAddrRead(i)` (R216): an XLEN-bit draw. -/
def pmpAddrRead (i : Nat) (s : State) : Word × State :=
  (s.cfg.xlen.trunc (Config.pmpAddrValue s.draws i), (s.drawn).emit (.pmpAddrRead i))

/-- `PmpCfgWrite(i, v)` (R216): an event. -/
def pmpCfgWrite (i : Nat) (v : Word) (s : State) : State := s.emit (.pmpCfgWrite i v)

/-- `PmpAddrWrite(i, v)` (R216): an event. -/
def pmpAddrWrite (i : Nat) (v : Word) (s : State) : State := s.emit (.pmpAddrWrite i v)

/-- The value the next `CurrentCount()` returns (D26): any 64-bit value not less than the last one returned. -/
def nextCount (s : State) : BitVec 64 :=
  if Config.countValue s.draws < s.count then s.count else Config.countValue s.draws

/-- `CurrentCount()` (R10, D26). -/
def currentCount (s : State) : BitVec 64 × State :=
  (nextCount s, ({ s with count := nextCount s }.drawn).emit .currentCount)

/-- `mip <- (mip & ~m) | (v & m)` (R179). -/
def updateMip (m v : BitVec 32) (s : State) : State :=
  s.setBank { s.bank with mip := (s.bank.mip &&& ~~~m) ||| (v &&& m) }

/-- The interrupt controller makes the update for which it holds the lock, and releases the lock (R76, R305). -/
def controllerFinish (s : State) : State :=
  match s.irqLock with
  | .heldByController m v => { updateMip m v s with irqLock := .free }
  | .heldByHart => s
  | .free => s

/-- `Lock()`: when the controller holds the lock, its step comes first (R139). -/
def lockIrq (s : State) : State := { (controllerFinish s).emit .lock with irqLock := .heldByHart }

/-- `Unlock()` (R10). -/
def unlockIrq (s : State) : State := { s.emit .unlock with irqLock := .free }

/-- `GetAndSetPending(m, v)`: the prior pending word and the update, one atomic act (R10, R179). -/
def getAndSetPending (m v : BitVec 32) (s : State) : BitVec 32 × State :=
  (s.bank.mip, updateMip m v (s.emit (.getAndSetPending m v)))

/-- `ReadPending()`: one atomic read of the pending word (R77). -/
def readPending (s : State) : BitVec 32 × State := (s.bank.mip, s.emit .readPending)

/-! ### Writes of bank fields -/

/-- The delegation-masked write of R174: bits outside the mask keep their value. -/
def maskedWrite (old merged mask : Word) : Word := (old &&& ~~~mask) ||| (merged &&& mask)

/-- `write_mstatus` (R165): the whole write path of the status word. -/
def writeMstatus (val : Word) (s : State) : State :=
  let new := mstatusWritten s.cfg s.bank.mstatus val
  let t := if mstatusFlushes s.cfg s.bank.mstatus new then invalidate s else s
  t.setBank { t.bank with mstatus := new }

/-- `write_mie` (R177). -/
def writeMie (merged : Word) (s : State) : State :=
  s.setBank { s.bank with mie := maskedWrite s.bank.mie merged s.cfg.allInt }

/-! ### Traps (R308 to R310) -/

/-- A direct write of the trap port: no gating, no masking, no `Invalidate()`, no event (R308). -/
def trapPortWrite (w : TrapPortWrite) (s : State) : State :=
  match w with
  | .priv p => s.setBank { s.bank with priv := p }
  | .mstatus v => s.setBank { s.bank with mstatus := s.cfg.xlen.trunc v }
  | .mepc v => s.setBank { s.bank with mepc := s.cfg.xlen.trunc v }
  | .mcause v => s.setBank { s.bank with mcause := s.cfg.xlen.trunc v }
  | .mbadaddr v => s.setBank { s.bank with mbadaddr := s.cfg.xlen.trunc v }
  | .sepc v => s.setBank { s.bank with sepc := s.cfg.xlen.trunc v }
  | .scause v => s.setBank { s.bank with scause := s.cfg.xlen.trunc v }
  | .sbadaddr v => s.setBank { s.bank with sbadaddr := s.cfg.xlen.trunc v }

/-- The delegation bit of a cause: `medeleg` for an exception, `mideleg` for an interrupt (R303, R304, R309). -/
def delegated (b : Bank) : TrapCause → Bool
  | .exception c => b.medeleg.getLsbD c.code
  | .interrupt i => b.mideleg.getLsbD i.bit

/-- The trap is taken to S: `priv <= S` and the cause is delegated (R309). -/
def trapsToS (b : Bank) (c : TrapCause) : Bool := b.priv != .m && delegated b c

/-- The status word after a trap to M: MPIE is MIE, MIE is 0, MPP is the level left (R309). -/
def mstatusTrapM (v : Word) (p : Priv) : Word :=
  setMpp (setFlag (setFlag v mstatusMPIE (hasFlag v mstatusMIE)) mstatusMIE false) p.code

/-- The status word after a trap to S: SPIE is SIE, SIE is 0, SPP is the level left (R309). -/
def mstatusTrapS (v : Word) (p : Priv) : Word :=
  setFlag (setFlag (setFlag v mstatusSPIE (hasFlag v mstatusSIE)) mstatusSIE false) mstatusSPP (p.code.getLsbD 0)

/-- Taking a trap (R309): the program counter, the cause and the trap value are saved, the status word and the level
change, and the program counter goes to the trap vector of the target level. -/
def takeTrap (c : TrapCause) (tval : Word) (s : State) : State :=
  if trapsToS s.bank c then
    { s with
      bank := { s.bank with
        sepc := s.pc
        scause := c.word s.cfg.xlen
        sbadaddr := s.cfg.xlen.trunc tval
        mstatus := mstatusTrapS s.bank.mstatus s.bank.priv
        priv := .s }
      pc := s.bank.stvec }
  else
    { s with
      bank := { s.bank with
        mepc := s.pc
        mcause := c.word s.cfg.xlen
        mbadaddr := s.cfg.xlen.trunc tval
        mstatus := mstatusTrapM s.bank.mstatus s.bank.priv
        priv := .m }
      pc := s.bank.mtvec }

/-- The illegal-instruction trap that the execution engine makes of a failed access (R300); the trap value is the trap
logic's (R303). -/
def illegalInstruction (s : State) : State :=
  takeTrap (.exception .illegalInstruction) (Config.trapValue s.draws) s.drawn

/-- The level that a previous-privilege field names. Level 2 is never current (R22): the trap logic's choice, a free
value. -/
def levelOf (n : Nat) (f : BitVec 2) : Priv :=
  if f = 0 then .u else if f = 1 then .s else if f = 3 then .m else Config.returnLevel n

/-- The status word after `mret`: MIE is MPIE, MPIE is 1, MPP is U, or M if U is absent (R310). -/
def mstatusMret (c : Config) (v : Word) : Word :=
  setMpp (setFlag (setFlag v mstatusMIE (hasFlag v mstatusMPIE)) mstatusMPIE true)
    (if c.hasU then Priv.u.code else Priv.m.code)

/-- The status word after `sret`: SIE is SPIE, SPIE is 1, SPP is U (R310). DESIGN CHOICE: SPP is 0 when U is absent too,
where R310's `M if U is absent` does not fit its one bit (assumption 27). -/
def mstatusSret (v : Word) : Word :=
  setFlag (setFlag (setFlag v mstatusSIE (hasFlag v mstatusSPIE)) mstatusSPIE true) mstatusSPP false

/-- Return from a machine-level trap (R310). -/
def trapReturnM (s : State) : State :=
  { s.drawn with
    bank := { s.bank with
      priv := levelOf s.draws (mppField s.bank.mstatus)
      mstatus := mstatusMret s.cfg s.bank.mstatus }
    pc := s.bank.mepc }

/-- Return from a supervisor-level trap (R310). -/
def trapReturnS (s : State) : State :=
  { s with
    bank := { s.bank with
      priv := if hasFlag s.bank.mstatus mstatusSPP then .s else .u
      mstatus := mstatusSret s.bank.mstatus }
    pc := s.bank.sepc }

/-! ### Interrupts (R304, R306) -/

/-- The priority among pending interrupts (R306). -/
def interruptPriority : List InterruptSource := [.mei, .msi, .mti, .sei, .ssi, .sti]

/-- The target level's global enable allows the interrupt at the current level (R306; the levels below the target are
always interruptible, assumption 11). -/
def levelAllows (b : Bank) (toS : Bool) : Bool :=
  if toS then b.priv == .u || (b.priv == .s && hasFlag b.mstatus mstatusSIE)
  else b.priv != .m || hasFlag b.mstatus mstatusMIE

/-- The interrupt can be taken: pending, enabled, and allowed by its target level (R306). -/
def takable (b : Bank) (i : InterruptSource) : Bool :=
  b.mip.getLsbD i.bit && b.mie.getLsbD i.bit && levelAllows b (b.mideleg.getLsbD i.bit)

/-- The trap logic takes the first takable interrupt of the priority order, or none (R306, R309). -/
def takeInterrupt (s : State) : State :=
  match interruptPriority.find? (takable s.bank) with
  | some i => takeTrap (.interrupt i) (Config.trapValue s.draws) s.drawn
  | none => s

/-! ### Reset (R341) -/

/-- Thread reset: every bank field takes its reset value at once; the configuration stays (R341, R343); no event. -/
def threadReset (s : State) : State := s.setBank Bank.reset

end Sys2Proof.Machine
end

