-- ==== Sys2Proof/Machine/CounterAccessors.lean ====
section
/-! DEFINITION. The accessors of the identification registers, the counters and their stand-ins (R230 to R249), and of the
counters of the build without the privilege layer (R141). Every one is a read accessor. -/

namespace Sys2Proof.Machine

/-- The enable word that the counter check consults at the current level (R235, D4). -/
def enableWord (b : Bank) : BitVec 32 :=
  match b.priv with
  | .u => b.scounteren.setWidth 32
  | .s => b.mcounteren.setWidth 32
  | .m => 0xFFFFFFFF

/-- `ctr_check` fails: the enable bit `csrno & 31` is clear (R235). -/
def counterDenied (csrno : BitVec 12) (s : State) : Bool := !(enableWord s.bank).getLsbD (enableIndex csrno)

/-- R231 to R233, R238 to R240: reads 0. -/
def readZero (_ : BitVec 12) (s : State) : Except CsrError (Word × State) := .ok (0, s)

/-- R234. -/
def readMhartid (_ : BitVec 12) (s : State) : Except CsrError (Word × State) := .ok (s.cfg.mhartid, s)

/-- R236, R237: the counter check, then 0. -/
def readGatedZero (csrno : BitVec 12) (s : State) : Except CsrError (Word × State) :=
  if counterDenied csrno s then .error .accessDenied else .ok (0, s)

/-- `CurrentCount()[XLEN-1:0]` (R241). -/
def readCountLow (s : State) : Word × State := (s.cfg.xlen.trunc (currentCount s).1, (currentCount s).2)

/-- `CurrentCount()[63:32]` (R243). -/
def readCountHigh (s : State) : Word × State := ((currentCount s).1 >>> 32, (currentCount s).2)

/-- R241, R242, R245, R246: the counter check, then the low word of the count. -/
def readGatedCount (csrno : BitVec 12) (s : State) : Except CsrError (Word × State) :=
  if counterDenied csrno s then .error .accessDenied else .ok (readCountLow s)

/-- R243, R244, R247, R248: the counter check, then the high half of the count. -/
def readGatedCounth (csrno : BitVec 12) (s : State) : Except CsrError (Word × State) :=
  if counterDenied csrno s then .error .accessDenied else .ok (readCountHigh s)

/-- R141: `cycle`, `time` and `instret` of the build without the privilege layer, with no check. -/
def readUserCount (_ : BitVec 12) (s : State) : Except CsrError (Word × State) := .ok (readCountLow s)

/-- R141: `cycleh`, `timeh` and `instreth` of the build without the privilege layer, with no check. -/
def readUserCounth (_ : BitVec 12) (s : State) : Except CsrError (Word × State) := .ok (readCountHigh s)

end Sys2Proof.Machine
end

