-- ==== Sys2Proof/Machine/FpAccessors.lean ====
section
/-! DEFINITION. The accessors of the floating-point status registers (R260 to R265). -/

namespace Sys2Proof.Machine

/-- `fp_check` fails: FS is Off on a build with privilege levels (R260, R265). -/
def fpDenied (s : State) : Bool := s.cfg.system && fsOff s.bank.mstatus

/-- The dirty mark: FS is set to 3, and nothing else; not on a build without privilege levels (R261, R265). -/
def markDirty (s : State) : State :=
  if s.cfg.system then s.setBank { s.bank with mstatus := s.bank.mstatus ||| mstatusFS } else s

/-- R262, read. -/
def readFflags (_ : BitVec 12) (s : State) : Except CsrError (Word × State) :=
  if fpDenied s then .error .accessDenied else .ok (s.bank.fflags.setWidth 64, s)

/-- R262, write: `merged & 0x1F`. -/
def writeFflags (_ : BitVec 12) (merged : Word) (s : State) : Except CsrError State :=
  if fpDenied s then .error .accessDenied
  else .ok ((markDirty s).setBank { (markDirty s).bank with fflags := merged.setWidth 5 })

/-- R263, read. -/
def readFrm (_ : BitVec 12) (s : State) : Except CsrError (Word × State) :=
  if fpDenied s then .error .accessDenied else .ok (s.bank.frm.setWidth 64, s)

/-- R263, write: `merged & 0x7`. -/
def writeFrm (_ : BitVec 12) (merged : Word) (s : State) : Except CsrError State :=
  if fpDenied s then .error .accessDenied
  else .ok ((markDirty s).setBank { (markDirty s).bank with frm := merged.setWidth 3 })

/-- R264, read. -/
def readFcsr (_ : BitVec 12) (s : State) : Except CsrError (Word × State) :=
  if fpDenied s then .error .accessDenied else .ok (fcsrWord s.bank.frm s.bank.fflags, s)

/-- R264, write. -/
def writeFcsr (_ : BitVec 12) (merged : Word) (s : State) : Except CsrError State :=
  if fpDenied s then .error .accessDenied
  else .ok ((markDirty s).setBank
    { (markDirty s).bank with frm := fcsrFrm merged, fflags := fcsrFflags merged })

end Sys2Proof.Machine
end

