-- ==== Sys2Proof/Machine/TranslationAccessors.lean ====
section
/-! DEFINITION. The accessors of the address-translation root (R210 to R213) and of the physical-memory-protection
registers (R214 to R216). -/

namespace Sys2Proof.Machine

/-- `read_satp` (R210). -/
def readSatp (_ : BitVec 12) (s : State) : Except CsrError (Word × State) :=
  if s.cfg.hasMmu then
    match s.cfg.privVer with
    | .v1_10_0 => .ok (s.bank.satp, s)
    | .v1_9_1 => .ok (s.bank.sptbr, s)
  else .ok (0, s)

/-- The legacy store (R211, R212). -/
def storeSptbr (merged : Word) (s : State) : State :=
  if merged = s.bank.sptbr then s
  else (invalidate s).setBank { (invalidate s).bank with sptbr := merged &&& sptbrMask s.cfg }

/-- The current version's store: a legal mode and a change, or nothing (R211). -/
def storeSatp (merged : Word) (s : State) : State :=
  if validateVm s.cfg (satpMode s.cfg.xlen merged) && hasFlag (merged ^^^ s.bank.satp) (satpFields s.cfg.xlen) then
    (invalidate s).setBank { (invalidate s).bank with satp := merged }
  else s

/-- `write_satp` (R211, R213). -/
def writeSatp (_ : BitVec 12) (merged : Word) (s : State) : Except CsrError State :=
  if s.cfg.hasMmu then
    match s.cfg.privVer with
    | .v1_9_1 => .ok (storeSptbr merged s)
    | .v1_10_0 => .ok (storeSatp merged s)
  else .ok s

/-- The first `pmpcfg` number (R214). -/
def pmpCfgBase : Nat := 0x3A0

/-- The first `pmpaddr` number (R215). -/
def pmpAddrBase : Nat := 0x3B0

/-- R214, read. -/
def readPmpCfg (csrno : BitVec 12) (s : State) : Except CsrError (Word × State) :=
  .ok (pmpCfgRead (blockIndex csrno pmpCfgBase) s)

/-- R214, write. -/
def writePmpCfg (csrno : BitVec 12) (merged : Word) (s : State) : Except CsrError State :=
  .ok (pmpCfgWrite (blockIndex csrno pmpCfgBase) merged s)

/-- R215, read. -/
def readPmpAddr (csrno : BitVec 12) (s : State) : Except CsrError (Word × State) :=
  .ok (pmpAddrRead (blockIndex csrno pmpAddrBase) s)

/-- R215, write. -/
def writePmpAddr (csrno : BitVec 12) (merged : Word) (s : State) : Except CsrError State :=
  .ok (pmpAddrWrite (blockIndex csrno pmpAddrBase) merged s)

end Sys2Proof.Machine
end

