-- ==== Sys2Proof/Machine/TrapAccessors.lean ====
section
/-! DEFINITION. The accessors of the trap, status and interrupt registers (R150 to R183). -/

namespace Sys2Proof.Machine

/-! ### Straight pass-through registers (R150) -/

/-- R151, read. -/
def readMscratch (_ : BitVec 12) (s : State) : Except CsrError (Word × State) := .ok (s.bank.mscratch, s)

/-- R151, write. -/
def writeMscratch (_ : BitVec 12) (merged : Word) (s : State) : Except CsrError State :=
  .ok (s.setBank { s.bank with mscratch := merged })

/-- R152, read. -/
def readMepc (_ : BitVec 12) (s : State) : Except CsrError (Word × State) := .ok (s.bank.mepc, s)

/-- R152, write. -/
def writeMepc (_ : BitVec 12) (merged : Word) (s : State) : Except CsrError State :=
  .ok (s.setBank { s.bank with mepc := merged })

/-- R153, read. -/
def readMcause (_ : BitVec 12) (s : State) : Except CsrError (Word × State) := .ok (s.bank.mcause, s)

/-- R153, write. -/
def writeMcause (_ : BitVec 12) (merged : Word) (s : State) : Except CsrError State :=
  .ok (s.setBank { s.bank with mcause := merged })

/-- R154, read. -/
def readMbadaddr (_ : BitVec 12) (s : State) : Except CsrError (Word × State) := .ok (s.bank.mbadaddr, s)

/-- R154, write. -/
def writeMbadaddr (_ : BitVec 12) (merged : Word) (s : State) : Except CsrError State :=
  .ok (s.setBank { s.bank with mbadaddr := merged })

/-- R155, read. -/
def readSscratch (_ : BitVec 12) (s : State) : Except CsrError (Word × State) := .ok (s.bank.sscratch, s)

/-- R155, write. -/
def writeSscratch (_ : BitVec 12) (merged : Word) (s : State) : Except CsrError State :=
  .ok (s.setBank { s.bank with sscratch := merged })

/-- R156, read. -/
def readSepc (_ : BitVec 12) (s : State) : Except CsrError (Word × State) := .ok (s.bank.sepc, s)

/-- R156, write. -/
def writeSepc (_ : BitVec 12) (merged : Word) (s : State) : Except CsrError State :=
  .ok (s.setBank { s.bank with sepc := merged })

/-- R157, read. -/
def readScause (_ : BitVec 12) (s : State) : Except CsrError (Word × State) := .ok (s.bank.scause, s)

/-- R157, write. -/
def writeScause (_ : BitVec 12) (merged : Word) (s : State) : Except CsrError State :=
  .ok (s.setBank { s.bank with scause := merged })

/-- R158, read. -/
def readSbadaddr (_ : BitVec 12) (s : State) : Except CsrError (Word × State) := .ok (s.bank.sbadaddr, s)

/-- R158, write. -/
def writeSbadaddr (_ : BitVec 12) (merged : Word) (s : State) : Except CsrError State :=
  .ok (s.setBank { s.bank with sbadaddr := merged })

/-! ### Version-gated counter-enable registers (R159) -/

/-- R160, read. -/
def readMcounteren (_ : BitVec 12) (s : State) : Except CsrError (Word × State) :=
  match s.cfg.privVer with
  | .v1_9_1 => .error .unsupportedRegister
  | .v1_10_0 => .ok (s.bank.mcounteren, s)

/-- R160, write. -/
def writeMcounteren (_ : BitVec 12) (merged : Word) (s : State) : Except CsrError State :=
  match s.cfg.privVer with
  | .v1_9_1 => .error .unsupportedRegister
  | .v1_10_0 => .ok (s.setBank { s.bank with mcounteren := merged })

/-- R161, read. -/
def readScounteren (_ : BitVec 12) (s : State) : Except CsrError (Word × State) :=
  match s.cfg.privVer with
  | .v1_9_1 => .error .unsupportedRegister
  | .v1_10_0 => .ok (s.bank.scounteren, s)

/-- R161, write. -/
def writeScounteren (_ : BitVec 12) (merged : Word) (s : State) : Except CsrError State :=
  match s.cfg.privVer with
  | .v1_9_1 => .error .unsupportedRegister
  | .v1_10_0 => .ok (s.setBank { s.bank with scounteren := merged })

/-- R162, read. -/
def readMucounteren (_ : BitVec 12) (s : State) : Except CsrError (Word × State) :=
  match s.cfg.privVer with
  | .v1_10_0 => .error .unsupportedRegister
  | .v1_9_1 => .ok (s.bank.scounteren, s)

/-- R162, write. -/
def writeMucounteren (_ : BitVec 12) (merged : Word) (s : State) : Except CsrError State :=
  match s.cfg.privVer with
  | .v1_10_0 => .error .unsupportedRegister
  | .v1_9_1 => .ok (s.setBank { s.bank with scounteren := merged })

/-- R163, read. -/
def readMscounteren (_ : BitVec 12) (s : State) : Except CsrError (Word × State) :=
  match s.cfg.privVer with
  | .v1_10_0 => .error .unsupportedRegister
  | .v1_9_1 => .ok (s.bank.mcounteren, s)

/-- R163, write. -/
def writeMscounteren (_ : BitVec 12) (merged : Word) (s : State) : Except CsrError State :=
  match s.cfg.privVer with
  | .v1_10_0 => .error .unsupportedRegister
  | .v1_9_1 => .ok (s.setBank { s.bank with mcounteren := merged })

/-! ### Status (R164 to R173) -/

/-- R164. -/
def readMstatus (_ : BitVec 12) (s : State) : Except CsrError (Word × State) := .ok (s.bank.mstatus, s)

/-- R165. -/
def writeMstatusCsr (_ : BitVec 12) (merged : Word) (s : State) : Except CsrError State := .ok (writeMstatus merged s)

/-- R172. -/
def readSstatus (_ : BitVec 12) (s : State) : Except CsrError (Word × State) :=
  .ok (s.bank.mstatus &&& sstatusMask s.cfg, s)

/-- R173: the masked bits are merged into `mstatus`, and its own write path runs. -/
def writeSstatus (_ : BitVec 12) (merged : Word) (s : State) : Except CsrError State :=
  .ok (writeMstatus (maskedWrite s.bank.mstatus merged (sstatusMask s.cfg)) s)

/-! ### Delegation-masked registers (R174 to R178) -/

/-- R175, read. -/
def readMedeleg (_ : BitVec 12) (s : State) : Except CsrError (Word × State) := .ok (s.bank.medeleg, s)

/-- R175, write. -/
def writeMedeleg (_ : BitVec 12) (merged : Word) (s : State) : Except CsrError State :=
  .ok (s.setBank { s.bank with medeleg := maskedWrite s.bank.medeleg merged s.cfg.delegExc })

/-- R176, read. -/
def readMideleg (_ : BitVec 12) (s : State) : Except CsrError (Word × State) := .ok (s.bank.mideleg, s)

/-- R176, write. -/
def writeMideleg (_ : BitVec 12) (merged : Word) (s : State) : Except CsrError State :=
  .ok (s.setBank { s.bank with mideleg := maskedWrite s.bank.mideleg merged s.cfg.delegInt })

/-- R177, read. -/
def readMie (_ : BitVec 12) (s : State) : Except CsrError (Word × State) := .ok (s.bank.mie, s)

/-- R177, write. -/
def writeMieCsr (_ : BitVec 12) (merged : Word) (s : State) : Except CsrError State := .ok (writeMie merged s)

/-- R178, read. -/
def readSie (_ : BitVec 12) (s : State) : Except CsrError (Word × State) := .ok (s.bank.mie &&& s.bank.mideleg, s)

/-- R178, write. -/
def writeSie (_ : BitVec 12) (merged : Word) (s : State) : Except CsrError State :=
  .ok (writeMie (maskedWrite s.bank.mie merged s.bank.mideleg) s)

/-! ### Interrupt-pending registers (R179, R180) -/

/-- `rmw_mip` (R179). -/
def rmwMip (_ : BitVec 12) (newValue writeMask : Word) (s : State) : Except CsrError (Word × State) :=
  let m := mipWritable s.cfg writeMask
  if m = 0 then
    .ok ((readPending s).1.setWidth 64, (readPending s).2)
  else
    let r := getAndSetPending (m.setWidth 32) ((newValue &&& m).setWidth 32) (lockIrq s)
    .ok (r.1.setWidth 64, unlockIrq r.2)

/-- `rmw_sip` (R180). -/
def rmwSip (csrno : BitVec 12) (newValue writeMask : Word) (s : State) : Except CsrError (Word × State) :=
  rmwMip csrno newValue (writeMask &&& s.bank.mideleg) s

/-! ### Trap-vector registers (R181, R182) -/

/-- The value a trap vector holds after a write: `merged & ~3` when bits 1:0 of `merged` are 0, else the old value. -/
def vectorWritten (old merged : Word) : Word := if merged &&& 3 = 0 then merged &&& ~~~3 else old

/-- R181, read. -/
def readMtvec (_ : BitVec 12) (s : State) : Except CsrError (Word × State) := .ok (s.bank.mtvec, s)

/-- R181, write. -/
def writeMtvec (_ : BitVec 12) (merged : Word) (s : State) : Except CsrError State :=
  .ok (s.setBank { s.bank with mtvec := vectorWritten s.bank.mtvec merged })

/-- R182, read. -/
def readStvec (_ : BitVec 12) (s : State) : Except CsrError (Word × State) := .ok (s.bank.stvec, s)

/-- R182, write. -/
def writeStvec (_ : BitVec 12) (merged : Word) (s : State) : Except CsrError State :=
  .ok (s.setBank { s.bank with stvec := vectorWritten s.bank.stvec merged })

/-! ### Machine ISA register (R183) -/

/-- R183. -/
def readMisa (_ : BitVec 12) (s : State) : Except CsrError (Word × State) := .ok (s.cfg.misa, s)

end Sys2Proof.Machine
end

