-- ==== Sys2Proof/Machine/AccessorTable.lean ====
section
/-! DEFINITION. The accessor table (R99 for the full build, R141 for the build without the privilege layer): immutable, a
function of the configuration alone (R48). -/

namespace Sys2Proof.Machine

/-- An accessor entry (R123, R124): exactly one of the three kinds. -/
inductive Entry
  | read (r : BitVec 12 → State → Except CsrError (Word × State))
  | readWrite (r : BitVec 12 → State → Except CsrError (Word × State))
      (w : BitVec 12 → Word → State → Except CsrError State)
  | combinedRmw (op : BitVec 12 → Word → Word → State → Except CsrError (Word × State))

/-- A row of the accessor table: the register numbers `first` to `last`, on RV32 only or on both widths. -/
structure TableRow where
  first : Nat
  last : Nat
  rv32Only : Bool
  entry : Entry

/-- One register number, on both widths. -/
def oneRow (n : Nat) (e : Entry) : TableRow := ⟨n, n, false, e⟩

/-- Consecutive register numbers, on both widths. -/
def spanRow (first last : Nat) (e : Entry) : TableRow := ⟨first, last, false, e⟩

/-- Consecutive register numbers that RV64 does not bind. -/
def rv32Row (first last : Nat) (e : Entry) : TableRow := ⟨first, last, true, e⟩

/-- R99: the rows of levels U and S that are no counters. -/
def lowerRows : List TableRow :=
  [oneRow 0x001 (.readWrite readFflags writeFflags),
   oneRow 0x002 (.readWrite readFrm writeFrm),
   oneRow 0x003 (.readWrite readFcsr writeFcsr),
   oneRow 0x100 (.readWrite readSstatus writeSstatus),
   oneRow 0x104 (.readWrite readSie writeSie),
   oneRow 0x105 (.readWrite readStvec writeStvec),
   oneRow 0x106 (.readWrite readScounteren writeScounteren),
   oneRow 0x140 (.readWrite readSscratch writeSscratch),
   oneRow 0x141 (.readWrite readSepc writeSepc),
   oneRow 0x142 (.readWrite readScause writeScause),
   oneRow 0x143 (.readWrite readSbadaddr writeSbadaddr),
   oneRow 0x144 (.combinedRmw rmwSip),
   oneRow 0x180 (.readWrite readSatp writeSatp)]

/-- R99: the machine-level rows in 0x300 to 0x344. -/
def machineRows : List TableRow :=
  [oneRow 0x300 (.readWrite readMstatus writeMstatusCsr),
   oneRow 0x301 (.read readMisa),
   oneRow 0x302 (.readWrite readMedeleg writeMedeleg),
   oneRow 0x303 (.readWrite readMideleg writeMideleg),
   oneRow 0x304 (.readWrite readMie writeMieCsr),
   oneRow 0x305 (.readWrite readMtvec writeMtvec),
   oneRow 0x306 (.readWrite readMcounteren writeMcounteren),
   oneRow 0x320 (.readWrite readMucounteren writeMucounteren),
   oneRow 0x321 (.readWrite readMscounteren writeMscounteren),
   spanRow 0x323 0x33F (.read readZero),
   oneRow 0x340 (.readWrite readMscratch writeMscratch),
   oneRow 0x341 (.readWrite readMepc writeMepc),
   oneRow 0x342 (.readWrite readMcause writeMcause),
   oneRow 0x343 (.readWrite readMbadaddr writeMbadaddr),
   oneRow 0x344 (.combinedRmw rmwMip)]

/-- R99: the counters and the identification registers. -/
def counterRows : List TableRow :=
  [oneRow 0xB00 (.read readGatedCount),
   oneRow 0xB02 (.read readGatedCount),
   spanRow 0xB03 0xB1F (.read readZero),
   rv32Row 0xB80 0xB80 (.read readGatedCounth),
   rv32Row 0xB82 0xB82 (.read readGatedCounth),
   rv32Row 0xB83 0xB9F (.read readZero),
   oneRow 0xC00 (.read readGatedCount),
   oneRow 0xC02 (.read readGatedCount),
   spanRow 0xC03 0xC1F (.read readGatedZero),
   rv32Row 0xC80 0xC80 (.read readGatedCounth),
   rv32Row 0xC82 0xC82 (.read readGatedCounth),
   rv32Row 0xC83 0xC9F (.read readGatedZero),
   oneRow 0xF11 (.read readZero),
   oneRow 0xF12 (.read readZero),
   oneRow 0xF13 (.read readZero),
   oneRow 0xF14 (.read readMhartid)]

/-- R99: the physical-memory-protection rows, as many numbers as the parameters of R6 say. -/
def pmpRows (c : Config) : List TableRow :=
  [spanRow pmpCfgBase (pmpCfgBase + c.pmpCfgCount - 1) (.readWrite readPmpCfg writePmpCfg),
   spanRow pmpAddrBase (pmpAddrBase + c.pmpAddrCount - 1) (.readWrite readPmpAddr writePmpAddr)]

/-- R141: the rows of the build without the privilege layer. -/
def userRows : List TableRow :=
  [oneRow 0x001 (.readWrite readFflags writeFflags),
   oneRow 0x002 (.readWrite readFrm writeFrm),
   oneRow 0x003 (.readWrite readFcsr writeFcsr),
   oneRow 0xC00 (.read readUserCount),
   oneRow 0xC01 (.read readUserCount),
   oneRow 0xC02 (.read readUserCount),
   rv32Row 0xC80 0xC80 (.read readUserCounth),
   rv32Row 0xC81 0xC81 (.read readUserCounth),
   rv32Row 0xC82 0xC82 (.read readUserCounth)]

/-- The rows of the configuration's build. -/
def tableRows (c : Config) : List TableRow :=
  if c.system then lowerRows ++ machineRows ++ counterRows ++ pmpRows c else userRows

/-- A row binds a register number at a width. -/
def TableRow.binds (x : Xlen) (n : Nat) (r : TableRow) : Bool :=
  r.first ≤ n && n ≤ r.last && (!r.rv32Only || x == .rv32)

/-- `TABLE(ctx.system, XLEN)[csrno]`: the entry of a register number, if it has one (R93, R131). -/
def accessorEntry (c : Config) (csrno : BitVec 12) : Option Entry :=
  ((tableRows c).find? (TableRow.binds c.xlen csrno.toNat)).map TableRow.entry

end Sys2Proof.Machine
end

