-- ==== Sys2Proof/Machine/Access.lean ====
section
/-! DEFINITION. The dispatch engine: `accessRegister` (R121, R131), and what the execution engine makes of its result for
the six CSR instructions (R96, R300). -/

namespace Sys2Proof.Machine

/-- Gating (R122): on a build with privilege levels, a write attempt to a read-only number, or a level below the
number's. -/
def gateDenies (csrno : BitVec 12) (writeMask : Word) (s : State) : Bool :=
  s.cfg.system && ((writeMask != 0 && isReadOnly csrno) || decide (s.bank.priv.code < requiredPrivilege csrno))

/-- The plain form (R126 to R130): read, merge, write. -/
def plainAccess (r : BitVec 12 → State → Except CsrError (Word × State))
    (w : BitVec 12 → Word → State → Except CsrError State) (csrno : BitVec 12) (newValue writeMask : Word)
    (s : State) : Except CsrError (Word × State) :=
  match r csrno s with
  | .error k => .error k
  | .ok (prior, t) =>
    if writeMask = 0 then .ok (prior, t)
    else
      match w csrno (merge prior newValue writeMask) t with
      | .error k => .error k
      | .ok u => .ok (prior, u)

/-- What an entry does with the operands (R125 to R130). A `Read` entry discards the write (R129). -/
def Entry.run (e : Entry) (csrno : BitVec 12) (newValue writeMask : Word) (s : State) :
    Except CsrError (Word × State) :=
  match e with
  | .combinedRmw op => op csrno newValue writeMask s
  | .read r => r csrno s
  | .readWrite r w => plainAccess r w csrno newValue writeMask s

/-- The whole operation of R131. -/
def accessCore (csrno : BitVec 12) (newValue writeMask : Word) (s : State) : Except CsrError (Word × State) :=
  if gateDenies csrno writeMask s then .error .accessDenied
  else
    match accessorEntry s.cfg csrno with
    | none => .error .unsupportedRegister
    | some e => e.run csrno newValue writeMask s

/-- `accessRegister` (R121) as one atomic step (R75): the operands are the XLEN bits of the port (R74); a failed access
leaves everything but its output as it was (R137). -/
def accessRegister (csrno : BitVec 12) (newValue writeMask : Word) (s : State) : State :=
  match accessCore csrno (s.cfg.xlen.trunc newValue) (s.cfg.xlen.trunc writeMask) s.clearOutput with
  | .ok (prior, t) => { t with result := some (.success prior) }
  | .error k => { s.clearOutput with result := some (.failure k) }

/-- What the execution engine does with the result of a CSR instruction's access (R96): the prior value goes to `rd` and
the next instruction follows, or the illegal-instruction trap is taken (R300). -/
def retire (rd : BitVec 5) (s : State) : State :=
  match s.result with
  | some (.success prior) => (s.writeX rd prior).advancePc
  | some (.failure _) => illegalInstruction s
  | none => s

/-- One CSR instruction: one access with the instruction's call shape, then its result (R96). -/
def csrInstruction (csr : BitVec 12) (c : CallShape) (rd : BitVec 5) (s : State) : State :=
  retire rd (accessRegister csr c.newValue c.writeMask s)

/-- The meaning of a register number's row: one call of `accessRegister` with that number (R94, R121). It always answers a
next state, whose `result` says whether the access succeeded (R300, R348). -/
def callRegister (csrno : BitVec 12) (newValue writeMask : Word) (s : State) : Host.Outcome State Fault Refusal :=
  .next (accessRegister csrno newValue writeMask s)

end Sys2Proof.Machine
end

