-- ==== Sys2Proof/Machine/CounterRows.lean ====
section
/-! DEFINITION. The meanings of the rows of the identification registers, the counters and their stand-ins (R231 to R248): each is one call of `accessRegister` with the row's number. -/

namespace Sys2Proof.Machine

/-- mhpmevent3, Read, R240. -/
def execCsrMhpmevent3 (newValue writeMask : Word) (s : State) : Host.Outcome State Fault Refusal :=
  callRegister 0x323 newValue writeMask s

/-- mhpmevent4, Read, R240. -/
def execCsrMhpmevent4 (newValue writeMask : Word) (s : State) : Host.Outcome State Fault Refusal :=
  callRegister 0x324 newValue writeMask s

/-- mhpmevent5, Read, R240. -/
def execCsrMhpmevent5 (newValue writeMask : Word) (s : State) : Host.Outcome State Fault Refusal :=
  callRegister 0x325 newValue writeMask s

/-- mhpmevent6, Read, R240. -/
def execCsrMhpmevent6 (newValue writeMask : Word) (s : State) : Host.Outcome State Fault Refusal :=
  callRegister 0x326 newValue writeMask s

/-- mhpmevent7, Read, R240. -/
def execCsrMhpmevent7 (newValue writeMask : Word) (s : State) : Host.Outcome State Fault Refusal :=
  callRegister 0x327 newValue writeMask s

/-- mhpmevent8, Read, R240. -/
def execCsrMhpmevent8 (newValue writeMask : Word) (s : State) : Host.Outcome State Fault Refusal :=
  callRegister 0x328 newValue writeMask s

/-- mhpmevent9, Read, R240. -/
def execCsrMhpmevent9 (newValue writeMask : Word) (s : State) : Host.Outcome State Fault Refusal :=
  callRegister 0x329 newValue writeMask s

/-- mhpmevent10, Read, R240. -/
def execCsrMhpmevent10 (newValue writeMask : Word) (s : State) : Host.Outcome State Fault Refusal :=
  callRegister 0x32A newValue writeMask s

/-- mhpmevent11, Read, R240. -/
def execCsrMhpmevent11 (newValue writeMask : Word) (s : State) : Host.Outcome State Fault Refusal :=
  callRegister 0x32B newValue writeMask s

/-- mhpmevent12, Read, R240. -/
def execCsrMhpmevent12 (newValue writeMask : Word) (s : State) : Host.Outcome State Fault Refusal :=
  callRegister 0x32C newValue writeMask s

/-- mhpmevent13, Read, R240. -/
def execCsrMhpmevent13 (newValue writeMask : Word) (s : State) : Host.Outcome State Fault Refusal :=
  callRegister 0x32D newValue writeMask s

/-- mhpmevent14, Read, R240. -/
def execCsrMhpmevent14 (newValue writeMask : Word) (s : State) : Host.Outcome State Fault Refusal :=
  callRegister 0x32E newValue writeMask s

/-- mhpmevent15, Read, R240. -/
def execCsrMhpmevent15 (newValue writeMask : Word) (s : State) : Host.Outcome State Fault Refusal :=
  callRegister 0x32F newValue writeMask s

/-- mhpmevent16, Read, R240. -/
def execCsrMhpmevent16 (newValue writeMask : Word) (s : State) : Host.Outcome State Fault Refusal :=
  callRegister 0x330 newValue writeMask s

/-- mhpmevent17, Read, R240. -/
def execCsrMhpmevent17 (newValue writeMask : Word) (s : State) : Host.Outcome State Fault Refusal :=
  callRegister 0x331 newValue writeMask s

/-- mhpmevent18, Read, R240. -/
def execCsrMhpmevent18 (newValue writeMask : Word) (s : State) : Host.Outcome State Fault Refusal :=
  callRegister 0x332 newValue writeMask s

/-- mhpmevent19, Read, R240. -/
def execCsrMhpmevent19 (newValue writeMask : Word) (s : State) : Host.Outcome State Fault Refusal :=
  callRegister 0x333 newValue writeMask s

/-- mhpmevent20, Read, R240. -/
def execCsrMhpmevent20 (newValue writeMask : Word) (s : State) : Host.Outcome State Fault Refusal :=
  callRegister 0x334 newValue writeMask s

/-- mhpmevent21, Read, R240. -/
def execCsrMhpmevent21 (newValue writeMask : Word) (s : State) : Host.Outcome State Fault Refusal :=
  callRegister 0x335 newValue writeMask s

/-- mhpmevent22, Read, R240. -/
def execCsrMhpmevent22 (newValue writeMask : Word) (s : State) : Host.Outcome State Fault Refusal :=
  callRegister 0x336 newValue writeMask s

/-- mhpmevent23, Read, R240. -/
def execCsrMhpmevent23 (newValue writeMask : Word) (s : State) : Host.Outcome State Fault Refusal :=
  callRegister 0x337 newValue writeMask s

/-- mhpmevent24, Read, R240. -/
def execCsrMhpmevent24 (newValue writeMask : Word) (s : State) : Host.Outcome State Fault Refusal :=
  callRegister 0x338 newValue writeMask s

/-- mhpmevent25, Read, R240. -/
def execCsrMhpmevent25 (newValue writeMask : Word) (s : State) : Host.Outcome State Fault Refusal :=
  callRegister 0x339 newValue writeMask s

/-- mhpmevent26, Read, R240. -/
def execCsrMhpmevent26 (newValue writeMask : Word) (s : State) : Host.Outcome State Fault Refusal :=
  callRegister 0x33A newValue writeMask s

/-- mhpmevent27, Read, R240. -/
def execCsrMhpmevent27 (newValue writeMask : Word) (s : State) : Host.Outcome State Fault Refusal :=
  callRegister 0x33B newValue writeMask s

/-- mhpmevent28, Read, R240. -/
def execCsrMhpmevent28 (newValue writeMask : Word) (s : State) : Host.Outcome State Fault Refusal :=
  callRegister 0x33C newValue writeMask s

/-- mhpmevent29, Read, R240. -/
def execCsrMhpmevent29 (newValue writeMask : Word) (s : State) : Host.Outcome State Fault Refusal :=
  callRegister 0x33D newValue writeMask s

/-- mhpmevent30, Read, R240. -/
def execCsrMhpmevent30 (newValue writeMask : Word) (s : State) : Host.Outcome State Fault Refusal :=
  callRegister 0x33E newValue writeMask s

/-- mhpmevent31, Read, R240. -/
def execCsrMhpmevent31 (newValue writeMask : Word) (s : State) : Host.Outcome State Fault Refusal :=
  callRegister 0x33F newValue writeMask s

/-- mcycle, Read, R245. -/
def execCsrMcycle (newValue writeMask : Word) (s : State) : Host.Outcome State Fault Refusal :=
  callRegister 0xB00 newValue writeMask s

/-- minstret, Read, R246. -/
def execCsrMinstret (newValue writeMask : Word) (s : State) : Host.Outcome State Fault Refusal :=
  callRegister 0xB02 newValue writeMask s

/-- mhpmcounter3, Read, R238. -/
def execCsrMhpmcounter3 (newValue writeMask : Word) (s : State) : Host.Outcome State Fault Refusal :=
  callRegister 0xB03 newValue writeMask s

/-- mhpmcounter4, Read, R238. -/
def execCsrMhpmcounter4 (newValue writeMask : Word) (s : State) : Host.Outcome State Fault Refusal :=
  callRegister 0xB04 newValue writeMask s

/-- mhpmcounter5, Read, R238. -/
def execCsrMhpmcounter5 (newValue writeMask : Word) (s : State) : Host.Outcome State Fault Refusal :=
  callRegister 0xB05 newValue writeMask s

/-- mhpmcounter6, Read, R238. -/
def execCsrMhpmcounter6 (newValue writeMask : Word) (s : State) : Host.Outcome State Fault Refusal :=
  callRegister 0xB06 newValue writeMask s

/-- mhpmcounter7, Read, R238. -/
def execCsrMhpmcounter7 (newValue writeMask : Word) (s : State) : Host.Outcome State Fault Refusal :=
  callRegister 0xB07 newValue writeMask s

/-- mhpmcounter8, Read, R238. -/
def execCsrMhpmcounter8 (newValue writeMask : Word) (s : State) : Host.Outcome State Fault Refusal :=
  callRegister 0xB08 newValue writeMask s

/-- mhpmcounter9, Read, R238. -/
def execCsrMhpmcounter9 (newValue writeMask : Word) (s : State) : Host.Outcome State Fault Refusal :=
  callRegister 0xB09 newValue writeMask s

/-- mhpmcounter10, Read, R238. -/
def execCsrMhpmcounter10 (newValue writeMask : Word) (s : State) : Host.Outcome State Fault Refusal :=
  callRegister 0xB0A newValue writeMask s

/-- mhpmcounter11, Read, R238. -/
def execCsrMhpmcounter11 (newValue writeMask : Word) (s : State) : Host.Outcome State Fault Refusal :=
  callRegister 0xB0B newValue writeMask s

/-- mhpmcounter12, Read, R238. -/
def execCsrMhpmcounter12 (newValue writeMask : Word) (s : State) : Host.Outcome State Fault Refusal :=
  callRegister 0xB0C newValue writeMask s

/-- mhpmcounter13, Read, R238. -/
def execCsrMhpmcounter13 (newValue writeMask : Word) (s : State) : Host.Outcome State Fault Refusal :=
  callRegister 0xB0D newValue writeMask s

/-- mhpmcounter14, Read, R238. -/
def execCsrMhpmcounter14 (newValue writeMask : Word) (s : State) : Host.Outcome State Fault Refusal :=
  callRegister 0xB0E newValue writeMask s

/-- mhpmcounter15, Read, R238. -/
def execCsrMhpmcounter15 (newValue writeMask : Word) (s : State) : Host.Outcome State Fault Refusal :=
  callRegister 0xB0F newValue writeMask s

/-- mhpmcounter16, Read, R238. -/
def execCsrMhpmcounter16 (newValue writeMask : Word) (s : State) : Host.Outcome State Fault Refusal :=
  callRegister 0xB10 newValue writeMask s

/-- mhpmcounter17, Read, R238. -/
def execCsrMhpmcounter17 (newValue writeMask : Word) (s : State) : Host.Outcome State Fault Refusal :=
  callRegister 0xB11 newValue writeMask s

/-- mhpmcounter18, Read, R238. -/
def execCsrMhpmcounter18 (newValue writeMask : Word) (s : State) : Host.Outcome State Fault Refusal :=
  callRegister 0xB12 newValue writeMask s

/-- mhpmcounter19, Read, R238. -/
def execCsrMhpmcounter19 (newValue writeMask : Word) (s : State) : Host.Outcome State Fault Refusal :=
  callRegister 0xB13 newValue writeMask s

/-- mhpmcounter20, Read, R238. -/
def execCsrMhpmcounter20 (newValue writeMask : Word) (s : State) : Host.Outcome State Fault Refusal :=
  callRegister 0xB14 newValue writeMask s

/-- mhpmcounter21, Read, R238. -/
def execCsrMhpmcounter21 (newValue writeMask : Word) (s : State) : Host.Outcome State Fault Refusal :=
  callRegister 0xB15 newValue writeMask s

/-- mhpmcounter22, Read, R238. -/
def execCsrMhpmcounter22 (newValue writeMask : Word) (s : State) : Host.Outcome State Fault Refusal :=
  callRegister 0xB16 newValue writeMask s

/-- mhpmcounter23, Read, R238. -/
def execCsrMhpmcounter23 (newValue writeMask : Word) (s : State) : Host.Outcome State Fault Refusal :=
  callRegister 0xB17 newValue writeMask s

/-- mhpmcounter24, Read, R238. -/
def execCsrMhpmcounter24 (newValue writeMask : Word) (s : State) : Host.Outcome State Fault Refusal :=
  callRegister 0xB18 newValue writeMask s

/-- mhpmcounter25, Read, R238. -/
def execCsrMhpmcounter25 (newValue writeMask : Word) (s : State) : Host.Outcome State Fault Refusal :=
  callRegister 0xB19 newValue writeMask s

/-- mhpmcounter26, Read, R238. -/
def execCsrMhpmcounter26 (newValue writeMask : Word) (s : State) : Host.Outcome State Fault Refusal :=
  callRegister 0xB1A newValue writeMask s

/-- mhpmcounter27, Read, R238. -/
def execCsrMhpmcounter27 (newValue writeMask : Word) (s : State) : Host.Outcome State Fault Refusal :=
  callRegister 0xB1B newValue writeMask s

/-- mhpmcounter28, Read, R238. -/
def execCsrMhpmcounter28 (newValue writeMask : Word) (s : State) : Host.Outcome State Fault Refusal :=
  callRegister 0xB1C newValue writeMask s

/-- mhpmcounter29, Read, R238. -/
def execCsrMhpmcounter29 (newValue writeMask : Word) (s : State) : Host.Outcome State Fault Refusal :=
  callRegister 0xB1D newValue writeMask s

/-- mhpmcounter30, Read, R238. -/
def execCsrMhpmcounter30 (newValue writeMask : Word) (s : State) : Host.Outcome State Fault Refusal :=
  callRegister 0xB1E newValue writeMask s

/-- mhpmcounter31, Read, R238. -/
def execCsrMhpmcounter31 (newValue writeMask : Word) (s : State) : Host.Outcome State Fault Refusal :=
  callRegister 0xB1F newValue writeMask s

/-- mcycleh, Read, R247. -/
def execCsrMcycleh (newValue writeMask : Word) (s : State) : Host.Outcome State Fault Refusal :=
  callRegister 0xB80 newValue writeMask s

/-- minstreth, Read, R248. -/
def execCsrMinstreth (newValue writeMask : Word) (s : State) : Host.Outcome State Fault Refusal :=
  callRegister 0xB82 newValue writeMask s

/-- mhpmcounter3h, Read, R239. -/
def execCsrMhpmcounter3h (newValue writeMask : Word) (s : State) : Host.Outcome State Fault Refusal :=
  callRegister 0xB83 newValue writeMask s

/-- mhpmcounter4h, Read, R239. -/
def execCsrMhpmcounter4h (newValue writeMask : Word) (s : State) : Host.Outcome State Fault Refusal :=
  callRegister 0xB84 newValue writeMask s

/-- mhpmcounter5h, Read, R239. -/
def execCsrMhpmcounter5h (newValue writeMask : Word) (s : State) : Host.Outcome State Fault Refusal :=
  callRegister 0xB85 newValue writeMask s

/-- mhpmcounter6h, Read, R239. -/
def execCsrMhpmcounter6h (newValue writeMask : Word) (s : State) : Host.Outcome State Fault Refusal :=
  callRegister 0xB86 newValue writeMask s

/-- mhpmcounter7h, Read, R239. -/
def execCsrMhpmcounter7h (newValue writeMask : Word) (s : State) : Host.Outcome State Fault Refusal :=
  callRegister 0xB87 newValue writeMask s

/-- mhpmcounter8h, Read, R239. -/
def execCsrMhpmcounter8h (newValue writeMask : Word) (s : State) : Host.Outcome State Fault Refusal :=
  callRegister 0xB88 newValue writeMask s

/-- mhpmcounter9h, Read, R239. -/
def execCsrMhpmcounter9h (newValue writeMask : Word) (s : State) : Host.Outcome State Fault Refusal :=
  callRegister 0xB89 newValue writeMask s

/-- mhpmcounter10h, Read, R239. -/
def execCsrMhpmcounter10h (newValue writeMask : Word) (s : State) : Host.Outcome State Fault Refusal :=
  callRegister 0xB8A newValue writeMask s

/-- mhpmcounter11h, Read, R239. -/
def execCsrMhpmcounter11h (newValue writeMask : Word) (s : State) : Host.Outcome State Fault Refusal :=
  callRegister 0xB8B newValue writeMask s

/-- mhpmcounter12h, Read, R239. -/
def execCsrMhpmcounter12h (newValue writeMask : Word) (s : State) : Host.Outcome State Fault Refusal :=
  callRegister 0xB8C newValue writeMask s

/-- mhpmcounter13h, Read, R239. -/
def execCsrMhpmcounter13h (newValue writeMask : Word) (s : State) : Host.Outcome State Fault Refusal :=
  callRegister 0xB8D newValue writeMask s

/-- mhpmcounter14h, Read, R239. -/
def execCsrMhpmcounter14h (newValue writeMask : Word) (s : State) : Host.Outcome State Fault Refusal :=
  callRegister 0xB8E newValue writeMask s

/-- mhpmcounter15h, Read, R239. -/
def execCsrMhpmcounter15h (newValue writeMask : Word) (s : State) : Host.Outcome State Fault Refusal :=
  callRegister 0xB8F newValue writeMask s

/-- mhpmcounter16h, Read, R239. -/
def execCsrMhpmcounter16h (newValue writeMask : Word) (s : State) : Host.Outcome State Fault Refusal :=
  callRegister 0xB90 newValue writeMask s

/-- mhpmcounter17h, Read, R239. -/
def execCsrMhpmcounter17h (newValue writeMask : Word) (s : State) : Host.Outcome State Fault Refusal :=
  callRegister 0xB91 newValue writeMask s

/-- mhpmcounter18h, Read, R239. -/
def execCsrMhpmcounter18h (newValue writeMask : Word) (s : State) : Host.Outcome State Fault Refusal :=
  callRegister 0xB92 newValue writeMask s

/-- mhpmcounter19h, Read, R239. -/
def execCsrMhpmcounter19h (newValue writeMask : Word) (s : State) : Host.Outcome State Fault Refusal :=
  callRegister 0xB93 newValue writeMask s

/-- mhpmcounter20h, Read, R239. -/
def execCsrMhpmcounter20h (newValue writeMask : Word) (s : State) : Host.Outcome State Fault Refusal :=
  callRegister 0xB94 newValue writeMask s

/-- mhpmcounter21h, Read, R239. -/
def execCsrMhpmcounter21h (newValue writeMask : Word) (s : State) : Host.Outcome State Fault Refusal :=
  callRegister 0xB95 newValue writeMask s

/-- mhpmcounter22h, Read, R239. -/
def execCsrMhpmcounter22h (newValue writeMask : Word) (s : State) : Host.Outcome State Fault Refusal :=
  callRegister 0xB96 newValue writeMask s

/-- mhpmcounter23h, Read, R239. -/
def execCsrMhpmcounter23h (newValue writeMask : Word) (s : State) : Host.Outcome State Fault Refusal :=
  callRegister 0xB97 newValue writeMask s

/-- mhpmcounter24h, Read, R239. -/
def execCsrMhpmcounter24h (newValue writeMask : Word) (s : State) : Host.Outcome State Fault Refusal :=
  callRegister 0xB98 newValue writeMask s

/-- mhpmcounter25h, Read, R239. -/
def execCsrMhpmcounter25h (newValue writeMask : Word) (s : State) : Host.Outcome State Fault Refusal :=
  callRegister 0xB99 newValue writeMask s

/-- mhpmcounter26h, Read, R239. -/
def execCsrMhpmcounter26h (newValue writeMask : Word) (s : State) : Host.Outcome State Fault Refusal :=
  callRegister 0xB9A newValue writeMask s

/-- mhpmcounter27h, Read, R239. -/
def execCsrMhpmcounter27h (newValue writeMask : Word) (s : State) : Host.Outcome State Fault Refusal :=
  callRegister 0xB9B newValue writeMask s

/-- mhpmcounter28h, Read, R239. -/
def execCsrMhpmcounter28h (newValue writeMask : Word) (s : State) : Host.Outcome State Fault Refusal :=
  callRegister 0xB9C newValue writeMask s

/-- mhpmcounter29h, Read, R239. -/
def execCsrMhpmcounter29h (newValue writeMask : Word) (s : State) : Host.Outcome State Fault Refusal :=
  callRegister 0xB9D newValue writeMask s

/-- mhpmcounter30h, Read, R239. -/
def execCsrMhpmcounter30h (newValue writeMask : Word) (s : State) : Host.Outcome State Fault Refusal :=
  callRegister 0xB9E newValue writeMask s

/-- mhpmcounter31h, Read, R239. -/
def execCsrMhpmcounter31h (newValue writeMask : Word) (s : State) : Host.Outcome State Fault Refusal :=
  callRegister 0xB9F newValue writeMask s

/-- cycle, Read, R241. -/
def execCsrCycle (newValue writeMask : Word) (s : State) : Host.Outcome State Fault Refusal :=
  callRegister 0xC00 newValue writeMask s

/-- instret, Read, R242. -/
def execCsrInstret (newValue writeMask : Word) (s : State) : Host.Outcome State Fault Refusal :=
  callRegister 0xC02 newValue writeMask s

/-- hpmcounter3, Read, R236. -/
def execCsrHpmcounter3 (newValue writeMask : Word) (s : State) : Host.Outcome State Fault Refusal :=
  callRegister 0xC03 newValue writeMask s

/-- hpmcounter4, Read, R236. -/
def execCsrHpmcounter4 (newValue writeMask : Word) (s : State) : Host.Outcome State Fault Refusal :=
  callRegister 0xC04 newValue writeMask s

/-- hpmcounter5, Read, R236. -/
def execCsrHpmcounter5 (newValue writeMask : Word) (s : State) : Host.Outcome State Fault Refusal :=
  callRegister 0xC05 newValue writeMask s

/-- hpmcounter6, Read, R236. -/
def execCsrHpmcounter6 (newValue writeMask : Word) (s : State) : Host.Outcome State Fault Refusal :=
  callRegister 0xC06 newValue writeMask s

/-- hpmcounter7, Read, R236. -/
def execCsrHpmcounter7 (newValue writeMask : Word) (s : State) : Host.Outcome State Fault Refusal :=
  callRegister 0xC07 newValue writeMask s

/-- hpmcounter8, Read, R236. -/
def execCsrHpmcounter8 (newValue writeMask : Word) (s : State) : Host.Outcome State Fault Refusal :=
  callRegister 0xC08 newValue writeMask s

/-- hpmcounter9, Read, R236. -/
def execCsrHpmcounter9 (newValue writeMask : Word) (s : State) : Host.Outcome State Fault Refusal :=
  callRegister 0xC09 newValue writeMask s

/-- hpmcounter10, Read, R236. -/
def execCsrHpmcounter10 (newValue writeMask : Word) (s : State) : Host.Outcome State Fault Refusal :=
  callRegister 0xC0A newValue writeMask s

/-- hpmcounter11, Read, R236. -/
def execCsrHpmcounter11 (newValue writeMask : Word) (s : State) : Host.Outcome State Fault Refusal :=
  callRegister 0xC0B newValue writeMask s

/-- hpmcounter12, Read, R236. -/
def execCsrHpmcounter12 (newValue writeMask : Word) (s : State) : Host.Outcome State Fault Refusal :=
  callRegister 0xC0C newValue writeMask s

/-- hpmcounter13, Read, R236. -/
def execCsrHpmcounter13 (newValue writeMask : Word) (s : State) : Host.Outcome State Fault Refusal :=
  callRegister 0xC0D newValue writeMask s

/-- hpmcounter14, Read, R236. -/
def execCsrHpmcounter14 (newValue writeMask : Word) (s : State) : Host.Outcome State Fault Refusal :=
  callRegister 0xC0E newValue writeMask s

/-- hpmcounter15, Read, R236. -/
def execCsrHpmcounter15 (newValue writeMask : Word) (s : State) : Host.Outcome State Fault Refusal :=
  callRegister 0xC0F newValue writeMask s

/-- hpmcounter16, Read, R236. -/
def execCsrHpmcounter16 (newValue writeMask : Word) (s : State) : Host.Outcome State Fault Refusal :=
  callRegister 0xC10 newValue writeMask s

/-- hpmcounter17, Read, R236. -/
def execCsrHpmcounter17 (newValue writeMask : Word) (s : State) : Host.Outcome State Fault Refusal :=
  callRegister 0xC11 newValue writeMask s

/-- hpmcounter18, Read, R236. -/
def execCsrHpmcounter18 (newValue writeMask : Word) (s : State) : Host.Outcome State Fault Refusal :=
  callRegister 0xC12 newValue writeMask s

/-- hpmcounter19, Read, R236. -/
def execCsrHpmcounter19 (newValue writeMask : Word) (s : State) : Host.Outcome State Fault Refusal :=
  callRegister 0xC13 newValue writeMask s

/-- hpmcounter20, Read, R236. -/
def execCsrHpmcounter20 (newValue writeMask : Word) (s : State) : Host.Outcome State Fault Refusal :=
  callRegister 0xC14 newValue writeMask s

/-- hpmcounter21, Read, R236. -/
def execCsrHpmcounter21 (newValue writeMask : Word) (s : State) : Host.Outcome State Fault Refusal :=
  callRegister 0xC15 newValue writeMask s

/-- hpmcounter22, Read, R236. -/
def execCsrHpmcounter22 (newValue writeMask : Word) (s : State) : Host.Outcome State Fault Refusal :=
  callRegister 0xC16 newValue writeMask s

/-- hpmcounter23, Read, R236. -/
def execCsrHpmcounter23 (newValue writeMask : Word) (s : State) : Host.Outcome State Fault Refusal :=
  callRegister 0xC17 newValue writeMask s

/-- hpmcounter24, Read, R236. -/
def execCsrHpmcounter24 (newValue writeMask : Word) (s : State) : Host.Outcome State Fault Refusal :=
  callRegister 0xC18 newValue writeMask s

/-- hpmcounter25, Read, R236. -/
def execCsrHpmcounter25 (newValue writeMask : Word) (s : State) : Host.Outcome State Fault Refusal :=
  callRegister 0xC19 newValue writeMask s

/-- hpmcounter26, Read, R236. -/
def execCsrHpmcounter26 (newValue writeMask : Word) (s : State) : Host.Outcome State Fault Refusal :=
  callRegister 0xC1A newValue writeMask s

/-- hpmcounter27, Read, R236. -/
def execCsrHpmcounter27 (newValue writeMask : Word) (s : State) : Host.Outcome State Fault Refusal :=
  callRegister 0xC1B newValue writeMask s

/-- hpmcounter28, Read, R236. -/
def execCsrHpmcounter28 (newValue writeMask : Word) (s : State) : Host.Outcome State Fault Refusal :=
  callRegister 0xC1C newValue writeMask s

/-- hpmcounter29, Read, R236. -/
def execCsrHpmcounter29 (newValue writeMask : Word) (s : State) : Host.Outcome State Fault Refusal :=
  callRegister 0xC1D newValue writeMask s

/-- hpmcounter30, Read, R236. -/
def execCsrHpmcounter30 (newValue writeMask : Word) (s : State) : Host.Outcome State Fault Refusal :=
  callRegister 0xC1E newValue writeMask s

/-- hpmcounter31, Read, R236. -/
def execCsrHpmcounter31 (newValue writeMask : Word) (s : State) : Host.Outcome State Fault Refusal :=
  callRegister 0xC1F newValue writeMask s

/-- cycleh, Read, R243. -/
def execCsrCycleh (newValue writeMask : Word) (s : State) : Host.Outcome State Fault Refusal :=
  callRegister 0xC80 newValue writeMask s

/-- instreth, Read, R244. -/
def execCsrInstreth (newValue writeMask : Word) (s : State) : Host.Outcome State Fault Refusal :=
  callRegister 0xC82 newValue writeMask s

/-- hpmcounter3h, Read, R237. -/
def execCsrHpmcounter3h (newValue writeMask : Word) (s : State) : Host.Outcome State Fault Refusal :=
  callRegister 0xC83 newValue writeMask s

/-- hpmcounter4h, Read, R237. -/
def execCsrHpmcounter4h (newValue writeMask : Word) (s : State) : Host.Outcome State Fault Refusal :=
  callRegister 0xC84 newValue writeMask s

/-- hpmcounter5h, Read, R237. -/
def execCsrHpmcounter5h (newValue writeMask : Word) (s : State) : Host.Outcome State Fault Refusal :=
  callRegister 0xC85 newValue writeMask s

/-- hpmcounter6h, Read, R237. -/
def execCsrHpmcounter6h (newValue writeMask : Word) (s : State) : Host.Outcome State Fault Refusal :=
  callRegister 0xC86 newValue writeMask s

/-- hpmcounter7h, Read, R237. -/
def execCsrHpmcounter7h (newValue writeMask : Word) (s : State) : Host.Outcome State Fault Refusal :=
  callRegister 0xC87 newValue writeMask s

/-- hpmcounter8h, Read, R237. -/
def execCsrHpmcounter8h (newValue writeMask : Word) (s : State) : Host.Outcome State Fault Refusal :=
  callRegister 0xC88 newValue writeMask s

/-- hpmcounter9h, Read, R237. -/
def execCsrHpmcounter9h (newValue writeMask : Word) (s : State) : Host.Outcome State Fault Refusal :=
  callRegister 0xC89 newValue writeMask s

/-- hpmcounter10h, Read, R237. -/
def execCsrHpmcounter10h (newValue writeMask : Word) (s : State) : Host.Outcome State Fault Refusal :=
  callRegister 0xC8A newValue writeMask s

/-- hpmcounter11h, Read, R237. -/
def execCsrHpmcounter11h (newValue writeMask : Word) (s : State) : Host.Outcome State Fault Refusal :=
  callRegister 0xC8B newValue writeMask s

/-- hpmcounter12h, Read, R237. -/
def execCsrHpmcounter12h (newValue writeMask : Word) (s : State) : Host.Outcome State Fault Refusal :=
  callRegister 0xC8C newValue writeMask s

/-- hpmcounter13h, Read, R237. -/
def execCsrHpmcounter13h (newValue writeMask : Word) (s : State) : Host.Outcome State Fault Refusal :=
  callRegister 0xC8D newValue writeMask s

/-- hpmcounter14h, Read, R237. -/
def execCsrHpmcounter14h (newValue writeMask : Word) (s : State) : Host.Outcome State Fault Refusal :=
  callRegister 0xC8E newValue writeMask s

/-- hpmcounter15h, Read, R237. -/
def execCsrHpmcounter15h (newValue writeMask : Word) (s : State) : Host.Outcome State Fault Refusal :=
  callRegister 0xC8F newValue writeMask s

/-- hpmcounter16h, Read, R237. -/
def execCsrHpmcounter16h (newValue writeMask : Word) (s : State) : Host.Outcome State Fault Refusal :=
  callRegister 0xC90 newValue writeMask s

/-- hpmcounter17h, Read, R237. -/
def execCsrHpmcounter17h (newValue writeMask : Word) (s : State) : Host.Outcome State Fault Refusal :=
  callRegister 0xC91 newValue writeMask s

/-- hpmcounter18h, Read, R237. -/
def execCsrHpmcounter18h (newValue writeMask : Word) (s : State) : Host.Outcome State Fault Refusal :=
  callRegister 0xC92 newValue writeMask s

/-- hpmcounter19h, Read, R237. -/
def execCsrHpmcounter19h (newValue writeMask : Word) (s : State) : Host.Outcome State Fault Refusal :=
  callRegister 0xC93 newValue writeMask s

/-- hpmcounter20h, Read, R237. -/
def execCsrHpmcounter20h (newValue writeMask : Word) (s : State) : Host.Outcome State Fault Refusal :=
  callRegister 0xC94 newValue writeMask s

/-- hpmcounter21h, Read, R237. -/
def execCsrHpmcounter21h (newValue writeMask : Word) (s : State) : Host.Outcome State Fault Refusal :=
  callRegister 0xC95 newValue writeMask s

/-- hpmcounter22h, Read, R237. -/
def execCsrHpmcounter22h (newValue writeMask : Word) (s : State) : Host.Outcome State Fault Refusal :=
  callRegister 0xC96 newValue writeMask s

/-- hpmcounter23h, Read, R237. -/
def execCsrHpmcounter23h (newValue writeMask : Word) (s : State) : Host.Outcome State Fault Refusal :=
  callRegister 0xC97 newValue writeMask s

/-- hpmcounter24h, Read, R237. -/
def execCsrHpmcounter24h (newValue writeMask : Word) (s : State) : Host.Outcome State Fault Refusal :=
  callRegister 0xC98 newValue writeMask s

/-- hpmcounter25h, Read, R237. -/
def execCsrHpmcounter25h (newValue writeMask : Word) (s : State) : Host.Outcome State Fault Refusal :=
  callRegister 0xC99 newValue writeMask s

/-- hpmcounter26h, Read, R237. -/
def execCsrHpmcounter26h (newValue writeMask : Word) (s : State) : Host.Outcome State Fault Refusal :=
  callRegister 0xC9A newValue writeMask s

/-- hpmcounter27h, Read, R237. -/
def execCsrHpmcounter27h (newValue writeMask : Word) (s : State) : Host.Outcome State Fault Refusal :=
  callRegister 0xC9B newValue writeMask s

/-- hpmcounter28h, Read, R237. -/
def execCsrHpmcounter28h (newValue writeMask : Word) (s : State) : Host.Outcome State Fault Refusal :=
  callRegister 0xC9C newValue writeMask s

/-- hpmcounter29h, Read, R237. -/
def execCsrHpmcounter29h (newValue writeMask : Word) (s : State) : Host.Outcome State Fault Refusal :=
  callRegister 0xC9D newValue writeMask s

/-- hpmcounter30h, Read, R237. -/
def execCsrHpmcounter30h (newValue writeMask : Word) (s : State) : Host.Outcome State Fault Refusal :=
  callRegister 0xC9E newValue writeMask s

/-- hpmcounter31h, Read, R237. -/
def execCsrHpmcounter31h (newValue writeMask : Word) (s : State) : Host.Outcome State Fault Refusal :=
  callRegister 0xC9F newValue writeMask s

/-- mvendorid, Read, R231. -/
def execCsrMvendorid (newValue writeMask : Word) (s : State) : Host.Outcome State Fault Refusal :=
  callRegister 0xF11 newValue writeMask s

/-- marchid, Read, R232. -/
def execCsrMarchid (newValue writeMask : Word) (s : State) : Host.Outcome State Fault Refusal :=
  callRegister 0xF12 newValue writeMask s

/-- mimpid, Read, R233. -/
def execCsrMimpid (newValue writeMask : Word) (s : State) : Host.Outcome State Fault Refusal :=
  callRegister 0xF13 newValue writeMask s

/-- mhartid, Read, R234. -/
def execCsrMhartid (newValue writeMask : Word) (s : State) : Host.Outcome State Fault Refusal :=
  callRegister 0xF14 newValue writeMask s

end Sys2Proof.Machine
end

