-- ==== Sys2Proof/Machine/FloatRows.lean ====
section
/-! DEFINITION. The meanings of the rows of the floating-point status registers (R262 to R264): each is one call of `accessRegister` with the row's number. -/

namespace Sys2Proof.Machine

/-- fflags, ReadWrite, R262. -/
def execCsrFflags (newValue writeMask : Word) (s : State) : Host.Outcome State Fault Refusal :=
  callRegister 0x001 newValue writeMask s

/-- frm, ReadWrite, R263. -/
def execCsrFrm (newValue writeMask : Word) (s : State) : Host.Outcome State Fault Refusal :=
  callRegister 0x002 newValue writeMask s

/-- fcsr, ReadWrite, R264. -/
def execCsrFcsr (newValue writeMask : Word) (s : State) : Host.Outcome State Fault Refusal :=
  callRegister 0x003 newValue writeMask s

end Sys2Proof.Machine
end

