-- ==== Sys2Proof/Machine/TranslationRows.lean ====
section
/-! DEFINITION. The meanings of the rows of the translation root and the physical-memory-protection registers (R210 to R215): each is one call of `accessRegister` with the row's number. -/

namespace Sys2Proof.Machine

/-- satp, ReadWrite, R210. -/
def execCsrSatp (newValue writeMask : Word) (s : State) : Host.Outcome State Fault Refusal :=
  callRegister 0x180 newValue writeMask s

/-- pmpcfg0, ReadWrite, R214. -/
def execCsrPmpcfg0 (newValue writeMask : Word) (s : State) : Host.Outcome State Fault Refusal :=
  callRegister 0x3A0 newValue writeMask s

/-- pmpcfg1, ReadWrite, R214. -/
def execCsrPmpcfg1 (newValue writeMask : Word) (s : State) : Host.Outcome State Fault Refusal :=
  callRegister 0x3A1 newValue writeMask s

/-- pmpcfg2, ReadWrite, R214. -/
def execCsrPmpcfg2 (newValue writeMask : Word) (s : State) : Host.Outcome State Fault Refusal :=
  callRegister 0x3A2 newValue writeMask s

/-- pmpcfg3, ReadWrite, R214. -/
def execCsrPmpcfg3 (newValue writeMask : Word) (s : State) : Host.Outcome State Fault Refusal :=
  callRegister 0x3A3 newValue writeMask s

/-- pmpaddr0, ReadWrite, R215. -/
def execCsrPmpaddr0 (newValue writeMask : Word) (s : State) : Host.Outcome State Fault Refusal :=
  callRegister 0x3B0 newValue writeMask s

/-- pmpaddr1, ReadWrite, R215. -/
def execCsrPmpaddr1 (newValue writeMask : Word) (s : State) : Host.Outcome State Fault Refusal :=
  callRegister 0x3B1 newValue writeMask s

/-- pmpaddr2, ReadWrite, R215. -/
def execCsrPmpaddr2 (newValue writeMask : Word) (s : State) : Host.Outcome State Fault Refusal :=
  callRegister 0x3B2 newValue writeMask s

/-- pmpaddr3, ReadWrite, R215. -/
def execCsrPmpaddr3 (newValue writeMask : Word) (s : State) : Host.Outcome State Fault Refusal :=
  callRegister 0x3B3 newValue writeMask s

/-- pmpaddr4, ReadWrite, R215. -/
def execCsrPmpaddr4 (newValue writeMask : Word) (s : State) : Host.Outcome State Fault Refusal :=
  callRegister 0x3B4 newValue writeMask s

/-- pmpaddr5, ReadWrite, R215. -/
def execCsrPmpaddr5 (newValue writeMask : Word) (s : State) : Host.Outcome State Fault Refusal :=
  callRegister 0x3B5 newValue writeMask s

/-- pmpaddr6, ReadWrite, R215. -/
def execCsrPmpaddr6 (newValue writeMask : Word) (s : State) : Host.Outcome State Fault Refusal :=
  callRegister 0x3B6 newValue writeMask s

/-- pmpaddr7, ReadWrite, R215. -/
def execCsrPmpaddr7 (newValue writeMask : Word) (s : State) : Host.Outcome State Fault Refusal :=
  callRegister 0x3B7 newValue writeMask s

/-- pmpaddr8, ReadWrite, R215. -/
def execCsrPmpaddr8 (newValue writeMask : Word) (s : State) : Host.Outcome State Fault Refusal :=
  callRegister 0x3B8 newValue writeMask s

/-- pmpaddr9, ReadWrite, R215. -/
def execCsrPmpaddr9 (newValue writeMask : Word) (s : State) : Host.Outcome State Fault Refusal :=
  callRegister 0x3B9 newValue writeMask s

/-- pmpaddr10, ReadWrite, R215. -/
def execCsrPmpaddr10 (newValue writeMask : Word) (s : State) : Host.Outcome State Fault Refusal :=
  callRegister 0x3BA newValue writeMask s

/-- pmpaddr11, ReadWrite, R215. -/
def execCsrPmpaddr11 (newValue writeMask : Word) (s : State) : Host.Outcome State Fault Refusal :=
  callRegister 0x3BB newValue writeMask s

/-- pmpaddr12, ReadWrite, R215. -/
def execCsrPmpaddr12 (newValue writeMask : Word) (s : State) : Host.Outcome State Fault Refusal :=
  callRegister 0x3BC newValue writeMask s

/-- pmpaddr13, ReadWrite, R215. -/
def execCsrPmpaddr13 (newValue writeMask : Word) (s : State) : Host.Outcome State Fault Refusal :=
  callRegister 0x3BD newValue writeMask s

/-- pmpaddr14, ReadWrite, R215. -/
def execCsrPmpaddr14 (newValue writeMask : Word) (s : State) : Host.Outcome State Fault Refusal :=
  callRegister 0x3BE newValue writeMask s

/-- pmpaddr15, ReadWrite, R215. -/
def execCsrPmpaddr15 (newValue writeMask : Word) (s : State) : Host.Outcome State Fault Refusal :=
  callRegister 0x3BF newValue writeMask s

end Sys2Proof.Machine
end

