-- ==== Sys2Proof/Machine/TrapRows.lean ====
section
/-! DEFINITION. The meanings of the rows of the trap, status and interrupt registers (R150 to R183): each is one call of `accessRegister` with the row's number. -/

namespace Sys2Proof.Machine

/-- sstatus, ReadWrite, R172. -/
def execCsrSstatus (newValue writeMask : Word) (s : State) : Host.Outcome State Fault Refusal :=
  callRegister 0x100 newValue writeMask s

/-- sie, ReadWrite, R178. -/
def execCsrSie (newValue writeMask : Word) (s : State) : Host.Outcome State Fault Refusal :=
  callRegister 0x104 newValue writeMask s

/-- stvec, ReadWrite, R182. -/
def execCsrStvec (newValue writeMask : Word) (s : State) : Host.Outcome State Fault Refusal :=
  callRegister 0x105 newValue writeMask s

/-- scounteren, ReadWrite, version-gated, R161. -/
def execCsrScounteren (newValue writeMask : Word) (s : State) : Host.Outcome State Fault Refusal :=
  callRegister 0x106 newValue writeMask s

/-- sscratch, ReadWrite, R155. -/
def execCsrSscratch (newValue writeMask : Word) (s : State) : Host.Outcome State Fault Refusal :=
  callRegister 0x140 newValue writeMask s

/-- sepc, ReadWrite, R156. -/
def execCsrSepc (newValue writeMask : Word) (s : State) : Host.Outcome State Fault Refusal :=
  callRegister 0x141 newValue writeMask s

/-- scause, ReadWrite, R157. -/
def execCsrScause (newValue writeMask : Word) (s : State) : Host.Outcome State Fault Refusal :=
  callRegister 0x142 newValue writeMask s

/-- sbadaddr, ReadWrite, R158. -/
def execCsrSbadaddr (newValue writeMask : Word) (s : State) : Host.Outcome State Fault Refusal :=
  callRegister 0x143 newValue writeMask s

/-- sip, CombinedRmw, R180. -/
def execCsrSip (newValue writeMask : Word) (s : State) : Host.Outcome State Fault Refusal :=
  callRegister 0x144 newValue writeMask s

/-- mstatus, ReadWrite, R164. -/
def execCsrMstatus (newValue writeMask : Word) (s : State) : Host.Outcome State Fault Refusal :=
  callRegister 0x300 newValue writeMask s

/-- misa, Read, R183. -/
def execCsrMisa (newValue writeMask : Word) (s : State) : Host.Outcome State Fault Refusal :=
  callRegister 0x301 newValue writeMask s

/-- medeleg, ReadWrite, R175. -/
def execCsrMedeleg (newValue writeMask : Word) (s : State) : Host.Outcome State Fault Refusal :=
  callRegister 0x302 newValue writeMask s

/-- mideleg, ReadWrite, R176. -/
def execCsrMideleg (newValue writeMask : Word) (s : State) : Host.Outcome State Fault Refusal :=
  callRegister 0x303 newValue writeMask s

/-- mie, ReadWrite, R177. -/
def execCsrMie (newValue writeMask : Word) (s : State) : Host.Outcome State Fault Refusal :=
  callRegister 0x304 newValue writeMask s

/-- mtvec, ReadWrite, R181. -/
def execCsrMtvec (newValue writeMask : Word) (s : State) : Host.Outcome State Fault Refusal :=
  callRegister 0x305 newValue writeMask s

/-- mcounteren, ReadWrite, version-gated, R160. -/
def execCsrMcounteren (newValue writeMask : Word) (s : State) : Host.Outcome State Fault Refusal :=
  callRegister 0x306 newValue writeMask s

/-- mucounteren, ReadWrite, version-gated, R162. -/
def execCsrMucounteren (newValue writeMask : Word) (s : State) : Host.Outcome State Fault Refusal :=
  callRegister 0x320 newValue writeMask s

/-- mscounteren, ReadWrite, version-gated, R163. -/
def execCsrMscounteren (newValue writeMask : Word) (s : State) : Host.Outcome State Fault Refusal :=
  callRegister 0x321 newValue writeMask s

/-- mscratch, ReadWrite, R151. -/
def execCsrMscratch (newValue writeMask : Word) (s : State) : Host.Outcome State Fault Refusal :=
  callRegister 0x340 newValue writeMask s

/-- mepc, ReadWrite, R152. -/
def execCsrMepc (newValue writeMask : Word) (s : State) : Host.Outcome State Fault Refusal :=
  callRegister 0x341 newValue writeMask s

/-- mcause, ReadWrite, R153. -/
def execCsrMcause (newValue writeMask : Word) (s : State) : Host.Outcome State Fault Refusal :=
  callRegister 0x342 newValue writeMask s

/-- mbadaddr, ReadWrite, R154. -/
def execCsrMbadaddr (newValue writeMask : Word) (s : State) : Host.Outcome State Fault Refusal :=
  callRegister 0x343 newValue writeMask s

/-- mip, CombinedRmw, R179. -/
def execCsrMip (newValue writeMask : Word) (s : State) : Host.Outcome State Fault Refusal :=
  callRegister 0x344 newValue writeMask s

end Sys2Proof.Machine
end

