-- ==== Sys2Proof/Machine/UserBuildRows.lean ====
section
/-! DEFINITION. The meanings of the rows of the build without the privilege layer (R141). A call finds that build's table when `cfg.system` is false: each is one call of `accessRegister` with the row's number. -/

namespace Sys2Proof.Machine

/-- fflags, ReadWrite, R141. -/
def execCsrFflagsUserBuild (newValue writeMask : Word) (s : State) : Host.Outcome State Fault Refusal :=
  callRegister 0x001 newValue writeMask s

/-- frm, ReadWrite, R141. -/
def execCsrFrmUserBuild (newValue writeMask : Word) (s : State) : Host.Outcome State Fault Refusal :=
  callRegister 0x002 newValue writeMask s

/-- fcsr, ReadWrite, R141. -/
def execCsrFcsrUserBuild (newValue writeMask : Word) (s : State) : Host.Outcome State Fault Refusal :=
  callRegister 0x003 newValue writeMask s

/-- cycle, Read, R141. -/
def execCsrCycleUserBuild (newValue writeMask : Word) (s : State) : Host.Outcome State Fault Refusal :=
  callRegister 0xC00 newValue writeMask s

/-- time, Read, R141. -/
def execCsrTimeUserBuild (newValue writeMask : Word) (s : State) : Host.Outcome State Fault Refusal :=
  callRegister 0xC01 newValue writeMask s

/-- instret, Read, R141. -/
def execCsrInstretUserBuild (newValue writeMask : Word) (s : State) : Host.Outcome State Fault Refusal :=
  callRegister 0xC02 newValue writeMask s

/-- cycleh, Read, R141. -/
def execCsrCyclehUserBuild (newValue writeMask : Word) (s : State) : Host.Outcome State Fault Refusal :=
  callRegister 0xC80 newValue writeMask s

/-- timeh, Read, R141. -/
def execCsrTimehUserBuild (newValue writeMask : Word) (s : State) : Host.Outcome State Fault Refusal :=
  callRegister 0xC81 newValue writeMask s

/-- instreth, Read, R141. -/
def execCsrInstrethUserBuild (newValue writeMask : Word) (s : State) : Host.Outcome State Fault Refusal :=
  callRegister 0xC82 newValue writeMask s

end Sys2Proof.Machine
end

