-- ==== Sys2Proof/Machine/Zicsr.lean ====
section
/-! DEFINITION. The meanings of the six CSR instructions: the call that R96 maps each to, and its result. -/

namespace Sys2Proof.Machine

/-- CSRRW (R96): unconditional write of `x[rs1]`. -/
def execCsrrw (csr : BitVec 12) (rs1 rd : BitVec 5) (s : State) : Host.Outcome State Fault Refusal :=
  .next (csrInstruction csr (writeShape s.cfg.xlen (s.readX rs1)) rd s)

/-- CSRRS (R96): read-and-set of `x[rs1]`, a pure read when `rs1` is 0. -/
def execCsrrs (csr : BitVec 12) (rs1 rd : BitVec 5) (s : State) : Host.Outcome State Fault Refusal :=
  .next (csrInstruction csr (setShape s.cfg.xlen (if rs1 = 0 then 0 else s.readX rs1)) rd s)

/-- CSRRC (R96): read-and-clear of `x[rs1]`, a pure read when `rs1` is 0. -/
def execCsrrc (csr : BitVec 12) (rs1 rd : BitVec 5) (s : State) : Host.Outcome State Fault Refusal :=
  .next (csrInstruction csr (clearShape (if rs1 = 0 then 0 else s.readX rs1)) rd s)

/-- CSRRWI (R96): unconditional write of the immediate. -/
def execCsrrwi (csr : BitVec 12) (uimm rd : BitVec 5) (s : State) : Host.Outcome State Fault Refusal :=
  .next (csrInstruction csr (writeShape s.cfg.xlen (zextUimm uimm)) rd s)

/-- CSRRSI (R96): read-and-set of the immediate. -/
def execCsrrsi (csr : BitVec 12) (uimm rd : BitVec 5) (s : State) : Host.Outcome State Fault Refusal :=
  .next (csrInstruction csr (setShape s.cfg.xlen (zextUimm uimm)) rd s)

/-- CSRRCI (R96): read-and-clear of the immediate. -/
def execCsrrci (csr : BitVec 12) (uimm rd : BitVec 5) (s : State) : Host.Outcome State Fault Refusal :=
  .next (csrInstruction csr (clearShape (zextUimm uimm)) rd s)

end Sys2Proof.Machine
end

