-- ==== Sys2Proof/Machine/Dispatch.lean ====
section
/-! DEFINITION. The dispatch of `exec`: one arm per instruction, one direct call of its meaning. -/

namespace Sys2Proof.Machine

/-- The meaning of every instruction. -/
def exec (i : Instr) (s : State) : Host.Outcome State Fault Refusal :=
  match i with
  | .csrrw csr rs1 rd => Sys2Proof.Machine.execCsrrw csr rs1 rd s
  | .csrrs csr rs1 rd => Sys2Proof.Machine.execCsrrs csr rs1 rd s
  | .csrrc csr rs1 rd => Sys2Proof.Machine.execCsrrc csr rs1 rd s
  | .csrrwi csr uimm rd => Sys2Proof.Machine.execCsrrwi csr uimm rd s
  | .csrrsi csr uimm rd => Sys2Proof.Machine.execCsrrsi csr uimm rd s
  | .csrrci csr uimm rd => Sys2Proof.Machine.execCsrrci csr uimm rd s
  | .csrFflags nv wm => Sys2Proof.Machine.execCsrFflags nv wm s
  | .csrFrm nv wm => Sys2Proof.Machine.execCsrFrm nv wm s
  | .csrFcsr nv wm => Sys2Proof.Machine.execCsrFcsr nv wm s
  | .csrSstatus nv wm => Sys2Proof.Machine.execCsrSstatus nv wm s
  | .csrSie nv wm => Sys2Proof.Machine.execCsrSie nv wm s
  | .csrStvec nv wm => Sys2Proof.Machine.execCsrStvec nv wm s
  | .csrScounteren nv wm => Sys2Proof.Machine.execCsrScounteren nv wm s
  | .csrSscratch nv wm => Sys2Proof.Machine.execCsrSscratch nv wm s
  | .csrSepc nv wm => Sys2Proof.Machine.execCsrSepc nv wm s
  | .csrScause nv wm => Sys2Proof.Machine.execCsrScause nv wm s
  | .csrSbadaddr nv wm => Sys2Proof.Machine.execCsrSbadaddr nv wm s
  | .csrSip nv wm => Sys2Proof.Machine.execCsrSip nv wm s
  | .csrSatp nv wm => Sys2Proof.Machine.execCsrSatp nv wm s
  | .csrMstatus nv wm => Sys2Proof.Machine.execCsrMstatus nv wm s
  | .csrMisa nv wm => Sys2Proof.Machine.execCsrMisa nv wm s
  | .csrMedeleg nv wm => Sys2Proof.Machine.execCsrMedeleg nv wm s
  | .csrMideleg nv wm => Sys2Proof.Machine.execCsrMideleg nv wm s
  | .csrMie nv wm => Sys2Proof.Machine.execCsrMie nv wm s
  | .csrMtvec nv wm => Sys2Proof.Machine.execCsrMtvec nv wm s
  | .csrMcounteren nv wm => Sys2Proof.Machine.execCsrMcounteren nv wm s
  | .csrMucounteren nv wm => Sys2Proof.Machine.execCsrMucounteren nv wm s
  | .csrMscounteren nv wm => Sys2Proof.Machine.execCsrMscounteren nv wm s
  | .csrMhpmevent3 nv wm => Sys2Proof.Machine.execCsrMhpmevent3 nv wm s
  | .csrMhpmevent4 nv wm => Sys2Proof.Machine.execCsrMhpmevent4 nv wm s
  | .csrMhpmevent5 nv wm => Sys2Proof.Machine.execCsrMhpmevent5 nv wm s
  | .csrMhpmevent6 nv wm => Sys2Proof.Machine.execCsrMhpmevent6 nv wm s
  | .csrMhpmevent7 nv wm => Sys2Proof.Machine.execCsrMhpmevent7 nv wm s
  | .csrMhpmevent8 nv wm => Sys2Proof.Machine.execCsrMhpmevent8 nv wm s
  | .csrMhpmevent9 nv wm => Sys2Proof.Machine.execCsrMhpmevent9 nv wm s
  | .csrMhpmevent10 nv wm => Sys2Proof.Machine.execCsrMhpmevent10 nv wm s
  | .csrMhpmevent11 nv wm => Sys2Proof.Machine.execCsrMhpmevent11 nv wm s
  | .csrMhpmevent12 nv wm => Sys2Proof.Machine.execCsrMhpmevent12 nv wm s
  | .csrMhpmevent13 nv wm => Sys2Proof.Machine.execCsrMhpmevent13 nv wm s
  | .csrMhpmevent14 nv wm => Sys2Proof.Machine.execCsrMhpmevent14 nv wm s
  | .csrMhpmevent15 nv wm => Sys2Proof.Machine.execCsrMhpmevent15 nv wm s
  | .csrMhpmevent16 nv wm => Sys2Proof.Machine.execCsrMhpmevent16 nv wm s
  | .csrMhpmevent17 nv wm => Sys2Proof.Machine.execCsrMhpmevent17 nv wm s
  | .csrMhpmevent18 nv wm => Sys2Proof.Machine.execCsrMhpmevent18 nv wm s
  | .csrMhpmevent19 nv wm => Sys2Proof.Machine.execCsrMhpmevent19 nv wm s
  | .csrMhpmevent20 nv wm => Sys2Proof.Machine.execCsrMhpmevent20 nv wm s
  | .csrMhpmevent21 nv wm => Sys2Proof.Machine.execCsrMhpmevent21 nv wm s
  | .csrMhpmevent22 nv wm => Sys2Proof.Machine.execCsrMhpmevent22 nv wm s
  | .csrMhpmevent23 nv wm => Sys2Proof.Machine.execCsrMhpmevent23 nv wm s
  | .csrMhpmevent24 nv wm => Sys2Proof.Machine.execCsrMhpmevent24 nv wm s
  | .csrMhpmevent25 nv wm => Sys2Proof.Machine.execCsrMhpmevent25 nv wm s
  | .csrMhpmevent26 nv wm => Sys2Proof.Machine.execCsrMhpmevent26 nv wm s
  | .csrMhpmevent27 nv wm => Sys2Proof.Machine.execCsrMhpmevent27 nv wm s
  | .csrMhpmevent28 nv wm => Sys2Proof.Machine.execCsrMhpmevent28 nv wm s
  | .csrMhpmevent29 nv wm => Sys2Proof.Machine.execCsrMhpmevent29 nv wm s
  | .csrMhpmevent30 nv wm => Sys2Proof.Machine.execCsrMhpmevent30 nv wm s
  | .csrMhpmevent31 nv wm => Sys2Proof.Machine.execCsrMhpmevent31 nv wm s
  | .csrMscratch nv wm => Sys2Proof.Machine.execCsrMscratch nv wm s
  | .csrMepc nv wm => Sys2Proof.Machine.execCsrMepc nv wm s
  | .csrMcause nv wm => Sys2Proof.Machine.execCsrMcause nv wm s
  | .csrMbadaddr nv wm => Sys2Proof.Machine.execCsrMbadaddr nv wm s
  | .csrMip nv wm => Sys2Proof.Machine.execCsrMip nv wm s
  | .csrPmpcfg0 nv wm => Sys2Proof.Machine.execCsrPmpcfg0 nv wm s
  | .csrPmpcfg1 nv wm => Sys2Proof.Machine.execCsrPmpcfg1 nv wm s
  | .csrPmpcfg2 nv wm => Sys2Proof.Machine.execCsrPmpcfg2 nv wm s
  | .csrPmpcfg3 nv wm => Sys2Proof.Machine.execCsrPmpcfg3 nv wm s
  | .csrPmpaddr0 nv wm => Sys2Proof.Machine.execCsrPmpaddr0 nv wm s
  | .csrPmpaddr1 nv wm => Sys2Proof.Machine.execCsrPmpaddr1 nv wm s
  | .csrPmpaddr2 nv wm => Sys2Proof.Machine.execCsrPmpaddr2 nv wm s
  | .csrPmpaddr3 nv wm => Sys2Proof.Machine.execCsrPmpaddr3 nv wm s
  | .csrPmpaddr4 nv wm => Sys2Proof.Machine.execCsrPmpaddr4 nv wm s
  | .csrPmpaddr5 nv wm => Sys2Proof.Machine.execCsrPmpaddr5 nv wm s
  | .csrPmpaddr6 nv wm => Sys2Proof.Machine.execCsrPmpaddr6 nv wm s
  | .csrPmpaddr7 nv wm => Sys2Proof.Machine.execCsrPmpaddr7 nv wm s
  | .csrPmpaddr8 nv wm => Sys2Proof.Machine.execCsrPmpaddr8 nv wm s
  | .csrPmpaddr9 nv wm => Sys2Proof.Machine.execCsrPmpaddr9 nv wm s
  | .csrPmpaddr10 nv wm => Sys2Proof.Machine.execCsrPmpaddr10 nv wm s
  | .csrPmpaddr11 nv wm => Sys2Proof.Machine.execCsrPmpaddr11 nv wm s
  | .csrPmpaddr12 nv wm => Sys2Proof.Machine.execCsrPmpaddr12 nv wm s
  | .csrPmpaddr13 nv wm => Sys2Proof.Machine.execCsrPmpaddr13 nv wm s
  | .csrPmpaddr14 nv wm => Sys2Proof.Machine.execCsrPmpaddr14 nv wm s
  | .csrPmpaddr15 nv wm => Sys2Proof.Machine.execCsrPmpaddr15 nv wm s
  | .csrMcycle nv wm => Sys2Proof.Machine.execCsrMcycle nv wm s
  | .csrMinstret nv wm => Sys2Proof.Machine.execCsrMinstret nv wm s
  | .csrMhpmcounter3 nv wm => Sys2Proof.Machine.execCsrMhpmcounter3 nv wm s
  | .csrMhpmcounter4 nv wm => Sys2Proof.Machine.execCsrMhpmcounter4 nv wm s
  | .csrMhpmcounter5 nv wm => Sys2Proof.Machine.execCsrMhpmcounter5 nv wm s
  | .csrMhpmcounter6 nv wm => Sys2Proof.Machine.execCsrMhpmcounter6 nv wm s
  | .csrMhpmcounter7 nv wm => Sys2Proof.Machine.execCsrMhpmcounter7 nv wm s
  | .csrMhpmcounter8 nv wm => Sys2Proof.Machine.execCsrMhpmcounter8 nv wm s
  | .csrMhpmcounter9 nv wm => Sys2Proof.Machine.execCsrMhpmcounter9 nv wm s
  | .csrMhpmcounter10 nv wm => Sys2Proof.Machine.execCsrMhpmcounter10 nv wm s
  | .csrMhpmcounter11 nv wm => Sys2Proof.Machine.execCsrMhpmcounter11 nv wm s
  | .csrMhpmcounter12 nv wm => Sys2Proof.Machine.execCsrMhpmcounter12 nv wm s
  | .csrMhpmcounter13 nv wm => Sys2Proof.Machine.execCsrMhpmcounter13 nv wm s
  | .csrMhpmcounter14 nv wm => Sys2Proof.Machine.execCsrMhpmcounter14 nv wm s
  | .csrMhpmcounter15 nv wm => Sys2Proof.Machine.execCsrMhpmcounter15 nv wm s
  | .csrMhpmcounter16 nv wm => Sys2Proof.Machine.execCsrMhpmcounter16 nv wm s
  | .csrMhpmcounter17 nv wm => Sys2Proof.Machine.execCsrMhpmcounter17 nv wm s
  | .csrMhpmcounter18 nv wm => Sys2Proof.Machine.execCsrMhpmcounter18 nv wm s
  | .csrMhpmcounter19 nv wm => Sys2Proof.Machine.execCsrMhpmcounter19 nv wm s
  | .csrMhpmcounter20 nv wm => Sys2Proof.Machine.execCsrMhpmcounter20 nv wm s
  | .csrMhpmcounter21 nv wm => Sys2Proof.Machine.execCsrMhpmcounter21 nv wm s
  | .csrMhpmcounter22 nv wm => Sys2Proof.Machine.execCsrMhpmcounter22 nv wm s
  | .csrMhpmcounter23 nv wm => Sys2Proof.Machine.execCsrMhpmcounter23 nv wm s
  | .csrMhpmcounter24 nv wm => Sys2Proof.Machine.execCsrMhpmcounter24 nv wm s
  | .csrMhpmcounter25 nv wm => Sys2Proof.Machine.execCsrMhpmcounter25 nv wm s
  | .csrMhpmcounter26 nv wm => Sys2Proof.Machine.execCsrMhpmcounter26 nv wm s
  | .csrMhpmcounter27 nv wm => Sys2Proof.Machine.execCsrMhpmcounter27 nv wm s
  | .csrMhpmcounter28 nv wm => Sys2Proof.Machine.execCsrMhpmcounter28 nv wm s
  | .csrMhpmcounter29 nv wm => Sys2Proof.Machine.execCsrMhpmcounter29 nv wm s
  | .csrMhpmcounter30 nv wm => Sys2Proof.Machine.execCsrMhpmcounter30 nv wm s
  | .csrMhpmcounter31 nv wm => Sys2Proof.Machine.execCsrMhpmcounter31 nv wm s
  | .csrMcycleh nv wm => Sys2Proof.Machine.execCsrMcycleh nv wm s
  | .csrMinstreth nv wm => Sys2Proof.Machine.execCsrMinstreth nv wm s
  | .csrMhpmcounter3h nv wm => Sys2Proof.Machine.execCsrMhpmcounter3h nv wm s
  | .csrMhpmcounter4h nv wm => Sys2Proof.Machine.execCsrMhpmcounter4h nv wm s
  | .csrMhpmcounter5h nv wm => Sys2Proof.Machine.execCsrMhpmcounter5h nv wm s
  | .csrMhpmcounter6h nv wm => Sys2Proof.Machine.execCsrMhpmcounter6h nv wm s
  | .csrMhpmcounter7h nv wm => Sys2Proof.Machine.execCsrMhpmcounter7h nv wm s
  | .csrMhpmcounter8h nv wm => Sys2Proof.Machine.execCsrMhpmcounter8h nv wm s
  | .csrMhpmcounter9h nv wm => Sys2Proof.Machine.execCsrMhpmcounter9h nv wm s
  | .csrMhpmcounter10h nv wm => Sys2Proof.Machine.execCsrMhpmcounter10h nv wm s
  | .csrMhpmcounter11h nv wm => Sys2Proof.Machine.execCsrMhpmcounter11h nv wm s
  | .csrMhpmcounter12h nv wm => Sys2Proof.Machine.execCsrMhpmcounter12h nv wm s
  | .csrMhpmcounter13h nv wm => Sys2Proof.Machine.execCsrMhpmcounter13h nv wm s
  | .csrMhpmcounter14h nv wm => Sys2Proof.Machine.execCsrMhpmcounter14h nv wm s
  | .csrMhpmcounter15h nv wm => Sys2Proof.Machine.execCsrMhpmcounter15h nv wm s
  | .csrMhpmcounter16h nv wm => Sys2Proof.Machine.execCsrMhpmcounter16h nv wm s
  | .csrMhpmcounter17h nv wm => Sys2Proof.Machine.execCsrMhpmcounter17h nv wm s
  | .csrMhpmcounter18h nv wm => Sys2Proof.Machine.execCsrMhpmcounter18h nv wm s
  | .csrMhpmcounter19h nv wm => Sys2Proof.Machine.execCsrMhpmcounter19h nv wm s
  | .csrMhpmcounter20h nv wm => Sys2Proof.Machine.execCsrMhpmcounter20h nv wm s
  | .csrMhpmcounter21h nv wm => Sys2Proof.Machine.execCsrMhpmcounter21h nv wm s
  | .csrMhpmcounter22h nv wm => Sys2Proof.Machine.execCsrMhpmcounter22h nv wm s
  | .csrMhpmcounter23h nv wm => Sys2Proof.Machine.execCsrMhpmcounter23h nv wm s
  | .csrMhpmcounter24h nv wm => Sys2Proof.Machine.execCsrMhpmcounter24h nv wm s
  | .csrMhpmcounter25h nv wm => Sys2Proof.Machine.execCsrMhpmcounter25h nv wm s
  | .csrMhpmcounter26h nv wm => Sys2Proof.Machine.execCsrMhpmcounter26h nv wm s
  | .csrMhpmcounter27h nv wm => Sys2Proof.Machine.execCsrMhpmcounter27h nv wm s
  | .csrMhpmcounter28h nv wm => Sys2Proof.Machine.execCsrMhpmcounter28h nv wm s
  | .csrMhpmcounter29h nv wm => Sys2Proof.Machine.execCsrMhpmcounter29h nv wm s
  | .csrMhpmcounter30h nv wm => Sys2Proof.Machine.execCsrMhpmcounter30h nv wm s
  | .csrMhpmcounter31h nv wm => Sys2Proof.Machine.execCsrMhpmcounter31h nv wm s
  | .csrCycle nv wm => Sys2Proof.Machine.execCsrCycle nv wm s
  | .csrInstret nv wm => Sys2Proof.Machine.execCsrInstret nv wm s
  | .csrHpmcounter3 nv wm => Sys2Proof.Machine.execCsrHpmcounter3 nv wm s
  | .csrHpmcounter4 nv wm => Sys2Proof.Machine.execCsrHpmcounter4 nv wm s
  | .csrHpmcounter5 nv wm => Sys2Proof.Machine.execCsrHpmcounter5 nv wm s
  | .csrHpmcounter6 nv wm => Sys2Proof.Machine.execCsrHpmcounter6 nv wm s
  | .csrHpmcounter7 nv wm => Sys2Proof.Machine.execCsrHpmcounter7 nv wm s
  | .csrHpmcounter8 nv wm => Sys2Proof.Machine.execCsrHpmcounter8 nv wm s
  | .csrHpmcounter9 nv wm => Sys2Proof.Machine.execCsrHpmcounter9 nv wm s
  | .csrHpmcounter10 nv wm => Sys2Proof.Machine.execCsrHpmcounter10 nv wm s
  | .csrHpmcounter11 nv wm => Sys2Proof.Machine.execCsrHpmcounter11 nv wm s
  | .csrHpmcounter12 nv wm => Sys2Proof.Machine.execCsrHpmcounter12 nv wm s
  | .csrHpmcounter13 nv wm => Sys2Proof.Machine.execCsrHpmcounter13 nv wm s
  | .csrHpmcounter14 nv wm => Sys2Proof.Machine.execCsrHpmcounter14 nv wm s
  | .csrHpmcounter15 nv wm => Sys2Proof.Machine.execCsrHpmcounter15 nv wm s
  | .csrHpmcounter16 nv wm => Sys2Proof.Machine.execCsrHpmcounter16 nv wm s
  | .csrHpmcounter17 nv wm => Sys2Proof.Machine.execCsrHpmcounter17 nv wm s
  | .csrHpmcounter18 nv wm => Sys2Proof.Machine.execCsrHpmcounter18 nv wm s
  | .csrHpmcounter19 nv wm => Sys2Proof.Machine.execCsrHpmcounter19 nv wm s
  | .csrHpmcounter20 nv wm => Sys2Proof.Machine.execCsrHpmcounter20 nv wm s
  | .csrHpmcounter21 nv wm => Sys2Proof.Machine.execCsrHpmcounter21 nv wm s
  | .csrHpmcounter22 nv wm => Sys2Proof.Machine.execCsrHpmcounter22 nv wm s
  | .csrHpmcounter23 nv wm => Sys2Proof.Machine.execCsrHpmcounter23 nv wm s
  | .csrHpmcounter24 nv wm => Sys2Proof.Machine.execCsrHpmcounter24 nv wm s
  | .csrHpmcounter25 nv wm => Sys2Proof.Machine.execCsrHpmcounter25 nv wm s
  | .csrHpmcounter26 nv wm => Sys2Proof.Machine.execCsrHpmcounter26 nv wm s
  | .csrHpmcounter27 nv wm => Sys2Proof.Machine.execCsrHpmcounter27 nv wm s
  | .csrHpmcounter28 nv wm => Sys2Proof.Machine.execCsrHpmcounter28 nv wm s
  | .csrHpmcounter29 nv wm => Sys2Proof.Machine.execCsrHpmcounter29 nv wm s
  | .csrHpmcounter30 nv wm => Sys2Proof.Machine.execCsrHpmcounter30 nv wm s
  | .csrHpmcounter31 nv wm => Sys2Proof.Machine.execCsrHpmcounter31 nv wm s
  | .csrCycleh nv wm => Sys2Proof.Machine.execCsrCycleh nv wm s
  | .csrInstreth nv wm => Sys2Proof.Machine.execCsrInstreth nv wm s
  | .csrHpmcounter3h nv wm => Sys2Proof.Machine.execCsrHpmcounter3h nv wm s
  | .csrHpmcounter4h nv wm => Sys2Proof.Machine.execCsrHpmcounter4h nv wm s
  | .csrHpmcounter5h nv wm => Sys2Proof.Machine.execCsrHpmcounter5h nv wm s
  | .csrHpmcounter6h nv wm => Sys2Proof.Machine.execCsrHpmcounter6h nv wm s
  | .csrHpmcounter7h nv wm => Sys2Proof.Machine.execCsrHpmcounter7h nv wm s
  | .csrHpmcounter8h nv wm => Sys2Proof.Machine.execCsrHpmcounter8h nv wm s
  | .csrHpmcounter9h nv wm => Sys2Proof.Machine.execCsrHpmcounter9h nv wm s
  | .csrHpmcounter10h nv wm => Sys2Proof.Machine.execCsrHpmcounter10h nv wm s
  | .csrHpmcounter11h nv wm => Sys2Proof.Machine.execCsrHpmcounter11h nv wm s
  | .csrHpmcounter12h nv wm => Sys2Proof.Machine.execCsrHpmcounter12h nv wm s
  | .csrHpmcounter13h nv wm => Sys2Proof.Machine.execCsrHpmcounter13h nv wm s
  | .csrHpmcounter14h nv wm => Sys2Proof.Machine.execCsrHpmcounter14h nv wm s
  | .csrHpmcounter15h nv wm => Sys2Proof.Machine.execCsrHpmcounter15h nv wm s
  | .csrHpmcounter16h nv wm => Sys2Proof.Machine.execCsrHpmcounter16h nv wm s
  | .csrHpmcounter17h nv wm => Sys2Proof.Machine.execCsrHpmcounter17h nv wm s
  | .csrHpmcounter18h nv wm => Sys2Proof.Machine.execCsrHpmcounter18h nv wm s
  | .csrHpmcounter19h nv wm => Sys2Proof.Machine.execCsrHpmcounter19h nv wm s
  | .csrHpmcounter20h nv wm => Sys2Proof.Machine.execCsrHpmcounter20h nv wm s
  | .csrHpmcounter21h nv wm => Sys2Proof.Machine.execCsrHpmcounter21h nv wm s
  | .csrHpmcounter22h nv wm => Sys2Proof.Machine.execCsrHpmcounter22h nv wm s
  | .csrHpmcounter23h nv wm => Sys2Proof.Machine.execCsrHpmcounter23h nv wm s
  | .csrHpmcounter24h nv wm => Sys2Proof.Machine.execCsrHpmcounter24h nv wm s
  | .csrHpmcounter25h nv wm => Sys2Proof.Machine.execCsrHpmcounter25h nv wm s
  | .csrHpmcounter26h nv wm => Sys2Proof.Machine.execCsrHpmcounter26h nv wm s
  | .csrHpmcounter27h nv wm => Sys2Proof.Machine.execCsrHpmcounter27h nv wm s
  | .csrHpmcounter28h nv wm => Sys2Proof.Machine.execCsrHpmcounter28h nv wm s
  | .csrHpmcounter29h nv wm => Sys2Proof.Machine.execCsrHpmcounter29h nv wm s
  | .csrHpmcounter30h nv wm => Sys2Proof.Machine.execCsrHpmcounter30h nv wm s
  | .csrHpmcounter31h nv wm => Sys2Proof.Machine.execCsrHpmcounter31h nv wm s
  | .csrMvendorid nv wm => Sys2Proof.Machine.execCsrMvendorid nv wm s
  | .csrMarchid nv wm => Sys2Proof.Machine.execCsrMarchid nv wm s
  | .csrMimpid nv wm => Sys2Proof.Machine.execCsrMimpid nv wm s
  | .csrMhartid nv wm => Sys2Proof.Machine.execCsrMhartid nv wm s
  | .csrFflagsUserBuild nv wm => Sys2Proof.Machine.execCsrFflagsUserBuild nv wm s
  | .csrFrmUserBuild nv wm => Sys2Proof.Machine.execCsrFrmUserBuild nv wm s
  | .csrFcsrUserBuild nv wm => Sys2Proof.Machine.execCsrFcsrUserBuild nv wm s
  | .csrCycleUserBuild nv wm => Sys2Proof.Machine.execCsrCycleUserBuild nv wm s
  | .csrTimeUserBuild nv wm => Sys2Proof.Machine.execCsrTimeUserBuild nv wm s
  | .csrInstretUserBuild nv wm => Sys2Proof.Machine.execCsrInstretUserBuild nv wm s
  | .csrCyclehUserBuild nv wm => Sys2Proof.Machine.execCsrCyclehUserBuild nv wm s
  | .csrTimehUserBuild nv wm => Sys2Proof.Machine.execCsrTimehUserBuild nv wm s
  | .csrInstrethUserBuild nv wm => Sys2Proof.Machine.execCsrInstrethUserBuild nv wm s

end Sys2Proof.Machine
end

