-- ==== Sys2Proof/Machine/Inputs.lean ====
section
/-! DEFINITION. What each input does. An instruction word or a call is decoded and runs as its instruction; the other
inputs are the acts of the agents outside the block (R305, R308, R309, R310, R341), made between accesses. -/

namespace Sys2Proof.Machine

/-- What is presented runs as the instruction it decodes to. A call of a number that no row has is an access like any
other, and fails (R93, R126); a word that is no CSR instruction is the execution engine's own (R95, R321). -/
def runPort (p : PortWord) (s : State) : Host.Outcome State Fault Refusal :=
  match decode s.cfg.system p with
  | .ok i => exec i s
  | .error _ =>
    match p with
    | .call csrno newValue writeMask => callRegister csrno newValue writeMask s
    | .insn _ => .refused .notCsrInstruction

/-- The interrupt controller takes the lock (R76). A section of its own still open is finished first. -/
def controllerBegin (mask value : BitVec 32) (s : State) : State :=
  { controllerFinish s with irqLock := .heldByController mask value }

/-- The floating-point unit sets the exception flags (R43). -/
def fpuSetFlags (f : BitVec 5) (s : State) : State := s.setBank { s.bank with fflags := f }

/-- `mret` is the return of machine level. -/
def mretAllowed (s : State) : Bool := s.bank.priv == .m

/-- `sret` "is allowed in S and M" (R310). -/
def sretAllowed (s : State) : Bool := s.bank.priv != .u

/-- One input. Inputs that are not accesses leave no output of an access (R140). -/
def runInput (i : Input) (s : State) : Host.Outcome State Fault Refusal :=
  match i with
  | .insn w => runPort (.insn w) s
  | .call csrno newValue writeMask => runPort (.call csrno newValue writeMask) s
  | .controllerLock mask value => .next (controllerBegin mask value s.clearOutput)
  | .controllerUnlock => .next (controllerFinish s.clearOutput)
  | .fpuSetFlags f => .next (fpuSetFlags f s.clearOutput)
  | .trapPort w => .next (trapPortWrite w s.clearOutput)
  | .trapEntry c tval => .next (takeTrap c tval s.clearOutput)
  | .pollInterrupts => .next (takeInterrupt s.clearOutput)
  | .mret => if mretAllowed s then .next (trapReturnM s.clearOutput) else .fault .returnNotAllowed
  | .sret => if sretAllowed s then .next (trapReturnS s.clearOutput) else .fault .returnNotAllowed
  | .threadReset => .next (threadReset s.clearOutput)
  | .setX r v => .next (s.clearOutput.writeX r v)
  | .setPc v => .next (s.clearOutput.setPc v)

/-- The next input of the machine, taken from the inbox; a machine with none is idle. -/
def runNext (s : State) : Host.Outcome State Fault Refusal :=
  match s.inbox with
  | [] => .next s
  | i :: rest => runInput i { s with inbox := rest }

/-- The input that presents a port word. -/
def inputOf : PortWord → Input
  | .insn w => .insn w
  | .call csrno newValue writeMask => .call csrno newValue writeMask

/-- Put a port word at the head of the inbox. -/
def presentFirst (p : PortWord) (s : State) : State := { s with inbox := inputOf p :: s.inbox }

end Sys2Proof.Machine
end

