-- ==== Sys2Proof/Machine/Step.lean ====
section
/-! DEFINITION. The step: one input, in the order the outside world presents them (R80). -/

namespace Sys2Proof.Machine

/-- One step of the machine. -/
def step (s : State) : Host.Outcome State Fault Refusal := runNext s

/-- The state whose next step runs the instruction of a word of the opcode table. The block fetches nothing (R71): the
execution engine presents an instruction, and it is put at the head of the inbox (assumption 3). -/
def State.withFetchWord (s : State) (nbits w : Nat) : State :=
  match tablePortWord nbits w with
  | some p => presentFirst p s
  | none => presentFirst (.insn (BitVec.ofNat 32 w)) s

end Sys2Proof.Machine
end

