-- ==== Sys2Proof/Safety.lean ====
section
/-! DEFINITION. The terms that claims use: the outcomes of an access, and the conditions that every step keeps. -/

namespace Sys2Proof.Machine

/-- The state after a successful access that returns `prior`, leaves the bank as `b` and made the events `evs`. -/
def accessDone (s : State) (prior : Word) (b : Bank) (evs : List Event) : State :=
  { s with bank := b, result := some (.success prior), events := evs }

/-- The state after a failed access (R11, R137): only the output differs. -/
def accessFailed (s : State) (k : CsrError) : State := { s with result := some (.failure k), events := [] }

/-- The current level may access a number of level `p` (R122). -/
abbrev reaches (s : State) (p : Priv) : Prop := s.cfg.system = true ∧ p.code ≤ s.bank.priv.code

/-- Every XLEN-wide field of the bank is XLEN bits wide (R21). -/
abbrev bankFits (x : Xlen) (b : Bank) : Prop :=
  b.mstatus.fits x ∧ b.mie.fits x ∧ b.mideleg.fits x ∧ b.medeleg.fits x ∧ b.mtvec.fits x ∧ b.stvec.fits x
    ∧ b.mepc.fits x ∧ b.sepc.fits x ∧ b.mcause.fits x ∧ b.scause.fits x ∧ b.mbadaddr.fits x ∧ b.sbadaddr.fits x
    ∧ b.mscratch.fits x ∧ b.sscratch.fits x ∧ b.satp.fits x ∧ b.sptbr.fits x ∧ b.mcounteren.fits x
    ∧ b.scounteren.fits x

/-- The bits that "never become 1" are 0: outside the delegable masks and the enable mask (R30, R33, R34, R174), above
the width mask of `sptbr` (R41), and the vectoring mode of the trap vectors (R35). -/
abbrev stuckBitsZero (c : Config) (b : Bank) : Prop :=
  b.mideleg &&& ~~~c.delegInt = 0 ∧ b.medeleg &&& ~~~c.delegExc = 0 ∧ b.mie &&& ~~~c.allInt = 0
    ∧ b.sptbr &&& ~~~sptbrMask c = 0 ∧ b.mtvec &&& 3 = 0 ∧ b.stvec &&& 3 = 0

/-- The execution engine's registers are XLEN bits wide, and register 0 holds 0 (R96). -/
abbrev engineFits (s : State) : Prop :=
  s.pc.fits s.cfg.xlen ∧ (∀ i : Fin 32, s.x[i].fits s.cfg.xlen) ∧ s.x[0] = 0

/-- The invariant of the machine: widths, stuck bits, and a lock that no access still holds (R76). -/
abbrev machineInv (s : State) : Prop :=
  s.cfg.misa.fits s.cfg.xlen ∧ s.cfg.mhartid.fits s.cfg.xlen ∧ bankFits s.cfg.xlen s.bank
    ∧ stuckBitsZero s.cfg s.bank ∧ engineFits s ∧ s.irqLock ≠ .heldByHart

/-- The status word as the block leaves it (R27): FS is Off or Dirty, and SD says whether FS or XS is Dirty. -/
abbrev statusNormal (x : Xlen) (v : Word) : Prop :=
  (v &&& mstatusFS = 0 ∨ v &&& mstatusFS = mstatusFS)
    ∧ (v &&& mstatusSD x ≠ 0 ↔ v &&& mstatusFS = mstatusFS ∨ v &&& mstatusXS = mstatusXS)

/-! ### What claims say about one access -/

/-- The value a plain-form access makes of a register holding `old` (R128), on the XLEN bits of the port (R74); with an
empty mask it is `old`. -/
def merged (s : State) (old newValue writeMask : Word) : Word :=
  (old &&& ~~~s.cfg.xlen.trunc writeMask) ||| (s.cfg.xlen.trunc newValue &&& s.cfg.xlen.trunc writeMask)

/-- The mask of the port is empty: a pure read (R94). -/
abbrev pureRead (s : State) (writeMask : Word) : Prop := s.cfg.xlen.trunc writeMask = 0

/-- The counter-enable bit `k` of the current level is set (R235): `scounteren` for U, `mcounteren` for S, always for M. -/
def counterEnabled (s : State) (k : Nat) : Bool :=
  match s.bank.priv with
  | .u => s.bank.scounteren.getLsbD k
  | .s => s.bank.mcounteren.getLsbD k
  | .m => true

/-- The state after a successful access that returns `prior` and read the count (R241). -/
def countDone (s : State) (prior : Word) : State :=
  { s with result := some (.success prior), events := [.currentCount], count := nextCount s, draws := s.draws + 1 }

/-- The state after a successful access of a physical-memory-protection register, whose read took a draw (R214). -/
def pmpDone (s : State) (prior : Word) (evs : List Event) : State :=
  { s with result := some (.success prior), events := evs, draws := s.draws + 1 }

/-- A CSR instruction's success: `rd` holds the prior value, unless it is register 0, and the next instruction follows
(R96). -/
def retired (s : State) (rd : BitVec 5) (prior : Word) : State :=
  { s with
    x := if rd = 0 then s.x else s.x.set rd.toNat (s.cfg.xlen.trunc prior) rd.isLt
    pc := s.cfg.xlen.trunc (s.pc + 4) }

/-- The status word the write path stores, transcribed in numbers from R165 to R169 and the default tables of R135. -/
def specMstatus (c : Config) (old val : Word) : Word :=
  let mpp := (val >>> 11) &&& 3
  let vm := (val >>> 24) &&& 0xF
  let vmLegal : Bool := match c.xlen with
    | .rv32 => vm == 0 || vm == 8
    | .rv64 => vm == 0 || vm == 9 || vm == 10
  let mask1 : Word := if c.privVer = .v1_9_1 ∧ vmLegal = true then 0x1F0E79AA else 0xE79AA
  let mask : Word :=
    if mpp = 2 ∨ (mpp = 1 ∧ c.misa.getLsbD 18 = false) ∨ (mpp = 0 ∧ c.misa.getLsbD 20 = false)
    then mask1 &&& ~~~0x1800 else mask1
  let new1 := (old &&& ~~~mask) ||| (val &&& mask)
  let new2 := if new1 &&& 0x6000 = 0 then new1 else new1 ||| 0x6000
  let sd : Word := match c.xlen with
    | .rv32 => 0x80000000
    | .rv64 => 0x8000000000000000
  if new2 &&& 0x6000 = 0x6000 ∨ new2 &&& 0x18000 = 0x18000 then new2 ||| sd else new2 &&& ~~~sd

/-- The events of replacing `old` by `new` in the status word, in numbers from R170. -/
def specFlush (c : Config) (old new : Word) : List Event :=
  let flush : Word := match c.privVer with
    | .v1_9_1 => 0x1F0E1800
    | .v1_10_0 => 0xE1800
  if (new ^^^ old) &&& flush = 0 then [] else [.invalidate]

/-- The mask of the supervisor view, in numbers from R28. -/
def specSstatusMask (c : Config) : Word :=
  match c.privVer, c.xlen with
  | .v1_9_1, .rv32 => 0x8005E133
  | .v1_9_1, .rv64 => 0x800000000005E133
  | .v1_10_0, .rv32 => 0x800DE133
  | .v1_10_0, .rv64 => 0x80000000000DE133

/-- The illegal-instruction trap of a failed access (R300, R309): to S when the level is U or S and bit 2 of `medeleg` is
set, else to M. -/
def trapped (s : State) (k : CsrError) : State :=
  takeTrap (.exception .illegalInstruction) (Config.trapValue s.draws) { accessFailed s k with draws := s.draws + 1 }

end Sys2Proof.Machine
end

