-- ==== Sys2Proof/Certificates/Slice0/Obligations.lean ====
section
/-! DEFINITION. The statements for the provers. Each docstring says which rules of the spec it formalises. -/

open Sys2Proof Sys2Proof.Machine

/-- A step runs the instruction that the head of the inbox decodes to (30_encoding.md R94, R96, 20_memory.md R80, assumption 3). -/
def Obligations.StepRunsThePresentedInstruction : Prop :=
  ∀ (s : State) (p : PortWord) (i : Instr) (rest : List Input),
    s.inbox = inputOf p :: rest → decode s.cfg.system p = .ok i → step s = exec i { s with inbox := rest }

/-- A call of a number that no table row has fails with UnsupportedRegister once gating passes (R126). -/
def Obligations.UnboundNumbersFail : Prop :=
  ∀ (s : State) (n : BitVec 12) (nv wm : Word) (rest : List Input),
    s.cfg.hasRecordedValues = true → s.inbox = .call n nv wm :: rest →
    decode s.cfg.system (.call n nv wm) = .error .unboundNumber →
    step s = .next (accessFailed { s with inbox := rest }
      (if s.cfg.system = true ∧ ((¬ pureRead s wm ∧ n.extractLsb' 10 2 = 3) ∨ s.bank.priv.code < n.extractLsb' 8 2)
       then .accessDenied else .unsupportedRegister))

/-- The model refuses a word that is no CSR instruction by name, and leaves the machine as it is when the inbox is empty (30_encoding.md R95, 60_exceptions.md R321, assumptions 3, 23). R95 and R321 only put such words outside the block; the refusal is the model's (assumption 23), and so is the idle step (assumption 3). -/
def Obligations.OtherWordsAreRefused : Prop :=
  (∀ (s : State) (w : BitVec 32) (rest : List Input), s.inbox = .insn w :: rest →
      (w.extractLsb' 0 7 ≠ 0x73 ∨ w.extractLsb' 12 3 = 0 ∨ w.extractLsb' 12 3 = 4) →
      step s = .refused .notCsrInstruction)
    ∧ ∀ s : State, s.inbox = [] → step s = .next s

/-- Words written out from the spec decode to the instructions they stand for (95_test_vectors.md I1 to I6, 30_encoding.md R95, R99, R141). -/
def Obligations.SpecWordsDecode : Prop :=
  decode true (.insn 0x34029573) = .ok (.csrrw 0x340 5 10)
    ∧ decode true (.insn 0x3402A573) = .ok (.csrrs 0x340 5 10)
    ∧ decode true (.insn 0x3402B573) = .ok (.csrrc 0x340 5 10)
    ∧ decode true (.insn 0x340FD573) = .ok (.csrrwi 0x340 31 10)
    ∧ decode true (.insn 0x3408E573) = .ok (.csrrsi 0x340 17 10)
    ∧ decode true (.insn 0x340FF573) = .ok (.csrrci 0x340 31 10)
    ∧ decode true (.call 0x003 5 9) = .ok (.csrFcsr 5 9)
    ∧ decode true (.call 0x144 5 9) = .ok (.csrSip 5 9)
    ∧ decode true (.call 0x3B5 5 9) = .ok (.csrPmpaddr5 5 9)
    ∧ decode true (.call 0xC9F 5 9) = .ok (.csrHpmcounter31h 5 9)
    ∧ decode false (.call 0xC01 5 9) = .ok (.csrTimeUserBuild 5 9)

/-- A port word decodes to an instruction exactly when the instruction is encoded by that word (30_encoding.md R90, R94, R95, R99, 40_dispatch.md R141, assumption 6). `inBuild` tells apart only the seven numbers with a row in each build; that a number which only one build binds decodes on the other too (its access fails there) is the model's choice (assumption 6). -/
def Obligations.DecodeAndEncodeAgree : Prop :=
  ∀ (system : Bool) (p : PortWord) (i : Instr),
    decode system p = .ok i ↔ encode i = p ∧ i.inBuild system = true

/-- A write attempt to a read-only number, or a level below the number's, fails with AccessDenied and changes nothing (R122). -/
def Obligations.GatingComesFirst : Prop :=
  ∀ (i : Instr) (n : BitVec 12) (nv wm : Word) (s : State),
    encode i = .call n nv wm → s.cfg.system = true →
    (¬ pureRead s wm ∧ n.extractLsb' 10 2 = 3) ∨ s.bank.priv.code < n.extractLsb' 8 2 →
    exec i s = .next (accessFailed s .accessDenied)

/-- A failed access changes no field and makes no collaborator call (R137). -/
def Obligations.FailedAccessChangesNothing : Prop :=
  ∀ (i : Instr) (n : BitVec 12) (nv wm : Word) (s t : State) (k : CsrError),
    encode i = .call n nv wm → exec i s = .next t → t.result = some (.failure k) → t = accessFailed s k

/-- An access with an empty write mask changes no bank field, makes no write, and reads the same again (R136). -/
def Obligations.PureReadChangesNothing : Prop :=
  ∀ (i : Instr) (n : BitVec 12) (nv wm p : Word) (s t : State),
    encode i = .call n nv wm → pureRead s wm → exec i s = .next t → t.result = some (.success p) →
    t.bank = s.bank ∧ t.irqLock = s.irqLock ∧ (∀ e ∈ t.events, e.isWrite = false)
      ∧ (t.draws = s.draws → ∃ u, exec i t = .next u ∧ u.result = some (.success p))

/-- A register-number instruction answers a next state with a result, and leaves level, configuration, general registers, pc and inbox (10_state.md R22, R23, R47, 60_exceptions.md R313). -/
def Obligations.CallsLeaveTheRestAlone : Prop :=
  ∀ (i : Instr) (n : BitVec 12) (nv wm : Word) (s : State), encode i = .call n nv wm →
    ∃ t r, exec i s = .next t ∧ t.result = some r ∧ t.bank.priv = s.bank.priv ∧ t.cfg = s.cfg ∧ t.x = s.x
      ∧ t.pc = s.pc ∧ t.inbox = s.inbox

/-- No access but one of mstatus, sstatus and satp invalidates the translation cache, and none more than once (20_memory.md R87, 41_trap_csrs.md R170, R173, 42_translation_pmp.md R211). -/
def Obligations.OnlyTranslationWritesInvalidate : Prop :=
  ∀ (i : Instr) (n : BitVec 12) (nv wm : Word) (s t : State), encode i = .call n nv wm → exec i s = .next t →
    (n ≠ 0x300 → n ≠ 0x100 → n ≠ 0x180 → .invalidate ∉ t.events) ∧ t.events.count .invalidate ≤ 1

/-- No instruction changes a bit of mip other than SSIP and STIP (41_trap_csrs.md R179, R180, 10_state.md R31). -/
def Obligations.ControllerPendingBitsStay : Prop :=
  ∀ (i : Instr) (s t : State), s.cfg.hasRecordedValues = true → s.irqLock = .free → exec i s = .next t →
    t.bank.mip &&& ~~~0x22 = s.bank.mip &&& ~~~0x22

/-- At user level a register-number instruction changes nothing in the bank but frm, fflags and the FS field (60_exceptions.md R312, 44_fp.md R261). -/
def Obligations.UserLevelReachesFloatStateOnly : Prop :=
  ∀ (i : Instr) (n : BitVec 12) (nv wm : Word) (s t : State), encode i = .call n nv wm →
    s.cfg.system = true → s.bank.priv = .u → exec i s = .next t →
    t.bank = { s.bank with mstatus := t.bank.mstatus, frm := t.bank.frm, fflags := t.bank.fflags }
      ∧ (t.bank.mstatus = s.bank.mstatus ∨ t.bank.mstatus = s.bank.mstatus ||| 0x6000)

/-- At supervisor level no machine-level field changes, but for the bits the supervisor views show (60_exceptions.md R312, R314, 41_trap_csrs.md R173, R178, R180). -/
def Obligations.SupervisorLevelReach : Prop :=
  ∀ (i : Instr) (n : BitVec 12) (nv wm : Word) (s t : State), encode i = .call n nv wm →
    s.cfg.system = true → s.bank.priv = .s → s.irqLock = .free → exec i s = .next t →
    t.bank.medeleg = s.bank.medeleg ∧ t.bank.mideleg = s.bank.mideleg ∧ t.bank.mtvec = s.bank.mtvec
      ∧ t.bank.mepc = s.bank.mepc ∧ t.bank.mcause = s.bank.mcause ∧ t.bank.mbadaddr = s.bank.mbadaddr
      ∧ t.bank.mscratch = s.bank.mscratch ∧ t.bank.mcounteren = s.bank.mcounteren
      ∧ t.bank.mstatus &&& ~~~specSstatusMask s.cfg = s.bank.mstatus &&& ~~~specSstatusMask s.cfg
      ∧ t.bank.mie &&& ~~~s.bank.mideleg = s.bank.mie &&& ~~~s.bank.mideleg
      ∧ t.bank.mip &&& ~~~s.bank.mideleg.setWidth 32 = s.bank.mip &&& ~~~s.bank.mideleg.setWidth 32

/-- No step changes the configuration (10_state.md R23, 70_reset_and_hazards.md R343). -/
def Obligations.ConfigurationNeverChanges : Prop :=
  ∀ s t : State, step s = .next t → t.cfg = s.cfg

/-- Every step keeps widths, stuck bits, register 0 and the lock (10_state.md R21, R30, R33, R34, R35, R41, 20_memory.md R76, 30_encoding.md R96). -/
def Obligations.EveryStepKeepsTheMachineInvariant : Prop :=
  ∀ s t : State, machineInv s → step s = .next t → machineInv t

/-- The reset state meets the machine invariant (70_reset_and_hazards.md R340, assumptions 2, 7). -/
def Obligations.ResetMeetsTheMachineInvariant : Prop :=
  machineInv State.reset
    ∧ ∀ c : Config, c.misa.fits c.xlen → c.mhartid.fits c.xlen → machineInv (State.resetOf c)

/-- Every instruction keeps FS at Off or Dirty and SD the summary of FS and XS (10_state.md R27, 41_trap_csrs.md R168, R169, 44_fp.md R261). -/
def Obligations.StatusWordStaysNormal : Prop :=
  ∀ (i : Instr) (s t : State), statusNormal s.cfg.xlen s.bank.mstatus → exec i s = .next t →
    statusNormal t.cfg.xlen t.bank.mstatus

/-- No access changes a read-only bit of mstatus (10_state.md R24, 41_trap_csrs.md R166, 44_fp.md R261). -/
def Obligations.ReadOnlyStatusBitsStay : Prop :=
  ∀ (i : Instr) (n : BitVec 12) (nv wm : Word) (s t : State), encode i = .call n nv wm → exec i s = .next t →
    (t.bank.mstatus ^^^ s.bank.mstatus) &&& ~~~(mstatusSD s.cfg.xlen ||| (match s.cfg.privVer with
      | .v1_9_1 => 0x1F0E79AA
      | .v1_10_0 => 0xE79AA)) = 0

/-- Writing back the value just read changes no field, but for mstatus, sstatus and the floating-point registers (40_dispatch.md R138, R131). -/
def Obligations.WritingBackWhatWasRead : Prop :=
  ∀ (i j : Instr) (n : BitVec 12) (nv wm p : Word) (s t : State),
    n ∉ ([0x001, 0x002, 0x003, 0x100, 0x300] : List (BitVec 12)) → s.irqLock = .free →
    encode i = .call n nv wm → pureRead s wm → exec i s = .next t → t.result = some (.success p) →
    encode j = .call n p s.cfg.xlen.ones →
    ∃ u, exec j t = .next u ∧ u.bank = s.bank ∧ .invalidate ∉ u.events

/-- The last count returned never falls (92_eei_decisions.md D26, 43_counters_ids.md R241). -/
def Obligations.CountNeverFalls : Prop :=
  ∀ s t : State, step s = .next t → s.count ≤ t.count

/-- The eight pass-through registers return the stored value and store the merged value verbatim (R150, R151, R152, R153, R154, R155, R156, R157, R158). -/
def Obligations.PassThroughRegisters : Prop :=
  (∀ (s : State) (nv wm : Word), reaches s .m →
    exec (.csrMscratch nv wm) s =
        .next (accessDone s s.bank.mscratch { s.bank with mscratch := merged s s.bank.mscratch nv wm } [])
    ∧ exec (.csrMepc nv wm) s =
        .next (accessDone s s.bank.mepc { s.bank with mepc := merged s s.bank.mepc nv wm } [])
    ∧ exec (.csrMcause nv wm) s =
        .next (accessDone s s.bank.mcause { s.bank with mcause := merged s s.bank.mcause nv wm } [])
    ∧ exec (.csrMbadaddr nv wm) s =
        .next (accessDone s s.bank.mbadaddr { s.bank with mbadaddr := merged s s.bank.mbadaddr nv wm } []))
    ∧ (∀ (s : State) (nv wm : Word), reaches s .s →
    exec (.csrSscratch nv wm) s =
        .next (accessDone s s.bank.sscratch { s.bank with sscratch := merged s s.bank.sscratch nv wm } [])
    ∧ exec (.csrSepc nv wm) s =
        .next (accessDone s s.bank.sepc { s.bank with sepc := merged s s.bank.sepc nv wm } [])
    ∧ exec (.csrScause nv wm) s =
        .next (accessDone s s.bank.scause { s.bank with scause := merged s s.bank.scause nv wm } [])
    ∧ exec (.csrSbadaddr nv wm) s =
        .next (accessDone s s.bank.sbadaddr { s.bank with sbadaddr := merged s s.bank.sbadaddr nv wm } []))
    ∧ ∀ (s : State) (nv wm : Word), s.cfg.system = true → s.bank.priv = .u →
      ∀ i ∈ ([.csrSscratch nv wm, .csrSepc nv wm, .csrScause nv wm, .csrSbadaddr nv wm] : List Instr),
        exec i s = .next (accessFailed s .accessDenied)

/-- The counter-enable words pass through in their own version and are unsupported in the other (R159, R160, R161, R162, R163). -/
def Obligations.CounterEnableRegisters : Prop :=
  (∀ (s : State) (nv wm : Word), reaches s .m → exec (.csrMcounteren nv wm) s = .next (match s.cfg.privVer with
        | .v1_9_1 => accessFailed s .unsupportedRegister
        | .v1_10_0 => accessDone s s.bank.mcounteren { s.bank with mcounteren := merged s s.bank.mcounteren nv wm } []))
    ∧ (∀ (s : State) (nv wm : Word), reaches s .s → exec (.csrScounteren nv wm) s = .next (match s.cfg.privVer with
        | .v1_9_1 => accessFailed s .unsupportedRegister
        | .v1_10_0 => accessDone s s.bank.scounteren { s.bank with scounteren := merged s s.bank.scounteren nv wm } []))
    ∧ (∀ (s : State) (nv wm : Word), reaches s .m → exec (.csrMucounteren nv wm) s = .next (match s.cfg.privVer with
        | .v1_9_1 => accessDone s s.bank.scounteren { s.bank with scounteren := merged s s.bank.scounteren nv wm } []
        | .v1_10_0 => accessFailed s .unsupportedRegister))
    ∧ (∀ (s : State) (nv wm : Word), reaches s .m → exec (.csrMscounteren nv wm) s = .next (match s.cfg.privVer with
        | .v1_9_1 => accessDone s s.bank.mcounteren { s.bank with mcounteren := merged s s.bank.mcounteren nv wm } []
        | .v1_10_0 => accessFailed s .unsupportedRegister))

/-- mstatus is read whole and written through its write path, in numbers (R164, R165, R166, R167, R168, R169, R170). -/
def Obligations.MstatusAccess : Prop :=
  ∀ (s : State) (nv wm : Word), reaches s .m → s.cfg.isThisHardware = true →
    exec (.csrMstatus nv wm) s = .next (
      let old := s.bank.mstatus
      let new := specMstatus s.cfg old (merged s old nv wm)
      if pureRead s wm then accessDone s old s.bank []
      else accessDone s old { s.bank with mstatus := new } (specFlush s.cfg old new))

/-- sstatus is mstatus under the version's mask, and its write goes through the mstatus write path (R171, R172, R173). -/
def Obligations.SstatusAccess : Prop :=
  ∀ (s : State) (nv wm : Word), reaches s .s → s.cfg.isThisHardware = true →
    exec (.csrSstatus nv wm) s = .next (
      let m := specSstatusMask s.cfg
      let old := s.bank.mstatus
      let val := (old &&& ~~~m) ||| (merged s (old &&& m) nv wm &&& m)
      let new := specMstatus s.cfg old val
      if pureRead s wm then accessDone s (old &&& m) s.bank []
      else accessDone s (old &&& m) { s.bank with mstatus := new } (specFlush s.cfg old new))

/-- After a write of mstatus FS is 0 or 3 and SD is the summary of FS and XS, whatever was written (R168, R169). -/
def Obligations.StatusWriteForcesDirtyAndSummary : Prop :=
  ∀ (s : State) (nv wm : Word), reaches s .m → ¬ pureRead s wm →
    ∃ t, exec (.csrMstatus nv wm) s = .next t ∧ statusNormal s.cfg.xlen t.bank.mstatus
      ∧ (merged s s.bank.mstatus nv wm &&& 0x6000 ≠ 0 → t.bank.mstatus &&& 0x6000 = 0x6000)
      ∧ (merged s s.bank.mstatus nv wm &&& 0x6000 = 0 → t.bank.mstatus &&& 0x6000 = 0)

/-- medeleg, mideleg and mie change only under their masks (R174, R175, R176, R177). -/
def Obligations.DelegationAndEnableRegisters : Prop :=
  ∀ (s : State) (nv wm : Word), reaches s .m → s.cfg.isThisHardware = true →
    exec (.csrMedeleg nv wm) s = .next (accessDone s s.bank.medeleg
        { s.bank with medeleg := (s.bank.medeleg &&& ~~~0xBFFF) ||| (merged s s.bank.medeleg nv wm &&& 0xBFFF) } [])
    ∧ exec (.csrMideleg nv wm) s = .next (accessDone s s.bank.mideleg
        { s.bank with mideleg := (s.bank.mideleg &&& ~~~0x222) ||| (merged s s.bank.mideleg nv wm &&& 0x222) } [])
    ∧ exec (.csrMie nv wm) s = .next (accessDone s s.bank.mie
        { s.bank with mie := (s.bank.mie &&& ~~~0xAAA) ||| (merged s s.bank.mie nv wm &&& 0xAAA) } [])

/-- sie is mie seen and written through mideleg (R178). -/
def Obligations.SieView : Prop :=
  ∀ (s : State) (nv wm : Word), reaches s .s → s.cfg.isThisHardware = true →
    exec (.csrSie nv wm) s = .next (
      let prior := s.bank.mie &&& s.bank.mideleg
      let val := (s.bank.mie &&& ~~~s.bank.mideleg) ||| (merged s prior nv wm &&& s.bank.mideleg)
      accessDone s prior { s.bank with mie := (s.bank.mie &&& ~~~0xAAA) ||| (val &&& 0xAAA) } [])

/-- mip is updated under the lock on SSIP and STIP only, or read without the lock (R179). -/
def Obligations.MipAccess : Prop :=
  ∀ (s : State) (nv wm : Word), reaches s .m → s.cfg.isThisHardware = true → s.irqLock = .free →
    exec (.csrMip nv wm) s = .next (
      let m := s.cfg.xlen.trunc wm &&& 0x222 &&& ~~~0x200
      let v := s.cfg.xlen.trunc nv
      if m = 0 then accessDone s (s.bank.mip.setWidth 64) s.bank [.readPending]
      else accessDone s (s.bank.mip.setWidth 64)
        { s.bank with mip := (s.bank.mip &&& ~~~m.setWidth 32) ||| ((v &&& m).setWidth 32) }
        [.lock, .getAndSetPending (m.setWidth 32) ((v &&& m).setWidth 32), .unlock])

/-- sip acts as mip with its mask cut further to mideleg, and returns the whole pending word (R180). -/
def Obligations.SipAccess : Prop :=
  ∀ (s : State) (nv wm : Word), reaches s .s → s.cfg.isThisHardware = true → s.irqLock = .free →
    exec (.csrSip nv wm) s = .next (
      let m := (s.cfg.xlen.trunc wm &&& s.bank.mideleg) &&& 0x222 &&& ~~~0x200
      let v := s.cfg.xlen.trunc nv
      if m = 0 then accessDone s (s.bank.mip.setWidth 64) s.bank [.readPending]
      else accessDone s (s.bank.mip.setWidth 64)
        { s.bank with mip := (s.bank.mip &&& ~~~m.setWidth 32) ||| ((v &&& m).setWidth 32) }
        [.lock, .getAndSetPending (m.setWidth 32) ((v &&& m).setWidth 32), .unlock])

/-- While the controller holds the lock, a locked mip or sip access comes after its update; a lock-free one reads the word before it (20_memory.md R76, R77, 41_trap_csrs.md R179, R180, 60_exceptions.md R307, 40_dispatch.md R139, assumption 16). R77 lets the update fall before or after a lock-free read; that the read returns the word before it is the model's choice (assumption 16). -/
def Obligations.ControllerUpdateComesFirst : Prop :=
  (∀ (s : State) (nv wm : Word) (cm cv : BitVec 32), reaches s .m → s.cfg.isThisHardware = true →
      s.irqLock = .heldByController cm cv →
      (s.cfg.xlen.trunc wm &&& 0x22 ≠ 0 → exec (.csrMip nv wm) s = exec (.csrMip nv wm)
        { s with bank := { s.bank with mip := (s.bank.mip &&& ~~~cm) ||| (cv &&& cm) }, irqLock := .free })
      ∧ (s.cfg.xlen.trunc wm &&& 0x22 = 0 →
        exec (.csrMip nv wm) s = .next (accessDone s (s.bank.mip.setWidth 64) s.bank [.readPending])))
    ∧ (∀ (s : State) (nv wm : Word) (cm cv : BitVec 32), reaches s .s → s.cfg.isThisHardware = true →
      s.irqLock = .heldByController cm cv →
      (s.cfg.xlen.trunc wm &&& s.bank.mideleg &&& 0x22 ≠ 0 → exec (.csrSip nv wm) s = exec (.csrSip nv wm)
        { s with bank := { s.bank with mip := (s.bank.mip &&& ~~~cm) ||| (cv &&& cm) }, irqLock := .free })
      ∧ (s.cfg.xlen.trunc wm &&& s.bank.mideleg &&& 0x22 = 0 →
        exec (.csrSip nv wm) s = .next (accessDone s (s.bank.mip.setWidth 64) s.bank [.readPending])))

/-- A trap vector takes a write whose low two bits are 0 and ignores any other (R181, R182). -/
def Obligations.TrapVectorRegisters : Prop :=
  (∀ (s : State) (nv wm : Word), reaches s .m → exec (.csrMtvec nv wm) s = .next (
      let v := merged s s.bank.mtvec nv wm
      accessDone s s.bank.mtvec
        { s.bank with mtvec := if ¬ pureRead s wm ∧ v &&& 3 = 0 then v &&& ~~~3 else s.bank.mtvec } []))
    ∧ ∀ (s : State) (nv wm : Word), reaches s .s → exec (.csrStvec nv wm) s = .next (
      let v := merged s s.bank.stvec nv wm
      accessDone s s.bank.stvec
        { s.bank with stvec := if ¬ pureRead s wm ∧ v &&& 3 = 0 then v &&& ~~~3 else s.bank.stvec } [])

/-- misa reads the parameter and discards writes; the identification registers read 0, 0, 0 and the hart id (R183, R231, R232, R233, R234). -/
def Obligations.MisaAndIdentification : Prop :=
  (∀ (s : State) (nv wm : Word), reaches s .m → exec (.csrMisa nv wm) s = .next (accessDone s s.cfg.misa s.bank []))
    ∧ (∀ (s : State) (nv wm : Word), reaches s .m → pureRead s wm →
      exec (.csrMvendorid nv wm) s = .next (accessDone s 0 s.bank [])
      ∧ exec (.csrMarchid nv wm) s = .next (accessDone s 0 s.bank [])
      ∧ exec (.csrMimpid nv wm) s = .next (accessDone s 0 s.bank [])
      ∧ exec (.csrMhartid nv wm) s = .next (accessDone s s.cfg.mhartid s.bank []))
    ∧ ∀ (s : State) (nv wm : Word), reaches s .m → ¬ pureRead s wm →
      ∀ i ∈ ([.csrMvendorid nv wm, .csrMarchid nv wm, .csrMimpid nv wm, .csrMhartid nv wm] : List Instr),
        exec i s = .next (accessFailed s .accessDenied)

/-- satp, current version: a legal mode and a change store the merged value and invalidate once (42_translation_pmp.md R210, R211, 40_dispatch.md R135). -/
def Obligations.TranslationRootCurrent : Prop :=
  ∀ (s : State) (nv wm : Word), reaches s .s → s.cfg.isThisHardware = true → s.cfg.hasMmu = true →
    s.cfg.privVer = .v1_10_0 → exec (.csrSatp nv wm) s = .next (
      let v := merged s s.bank.satp nv wm
      let legal : Bool := match s.cfg.xlen with
        | .rv32 => true
        | .rv64 => v >>> 60 == 0 || v >>> 60 == 8 || v >>> 60 == 9 || v >>> 60 == 10
      if v ≠ s.bank.satp ∧ legal = true then accessDone s s.bank.satp { s.bank with satp := v } [.invalidate]
      else accessDone s s.bank.satp s.bank [])

/-- sptbr, legacy version: any change invalidates and is stored under the width mask; without translation nothing happens (R212, R213). -/
def Obligations.TranslationRootLegacyAndAbsent : Prop :=
  (∀ (s : State) (nv wm : Word), reaches s .s → s.cfg.isThisHardware = true → s.cfg.hasMmu = true →
    s.cfg.privVer = .v1_9_1 → exec (.csrSatp nv wm) s = .next (
      let v := merged s s.bank.sptbr nv wm
      let mask : Word := match s.cfg.xlen with
        | .rv32 => 0x3FFFFF
        | .rv64 => 0x3FFFFFFFFF
      if v ≠ s.bank.sptbr then accessDone s s.bank.sptbr { s.bank with sptbr := v &&& mask } [.invalidate]
      else accessDone s s.bank.sptbr s.bank []))
    ∧ ∀ (s : State) (nv wm : Word), reaches s .s → s.cfg.hasMmu = false →
      exec (.csrSatp nv wm) s = .next (accessDone s 0 s.bank [])

/-- pmpcfg0 to pmpcfg3 read and write the PMP table at their index (R214). -/
def Obligations.PmpConfigRegisters : Prop :=
  ∀ (s : State) (nv wm : Word), reaches s .m → s.cfg.isThisHardware = true → ∀ p ∈ ((
      [(0, .csrPmpcfg0 nv wm), (1, .csrPmpcfg1 nv wm), (2, .csrPmpcfg2 nv wm), (3, .csrPmpcfg3 nv wm)]) : List (Nat × Instr)),
    exec p.2 s = .next (
      let r := s.cfg.xlen.trunc (Config.pmpCfgValue s.draws p.1)
      pmpDone s r (if pureRead s wm then [.pmpCfgRead p.1] else [.pmpCfgRead p.1, .pmpCfgWrite p.1 (merged s r nv wm)]))

/-- pmpaddr0 to pmpaddr15 read and write the PMP table at their index (R215). -/
def Obligations.PmpAddressRegisters : Prop :=
  ∀ (s : State) (nv wm : Word), reaches s .m → s.cfg.isThisHardware = true → ∀ p ∈ ((
      [(0, .csrPmpaddr0 nv wm), (1, .csrPmpaddr1 nv wm), (2, .csrPmpaddr2 nv wm), (3, .csrPmpaddr3 nv wm),
       (4, .csrPmpaddr4 nv wm), (5, .csrPmpaddr5 nv wm), (6, .csrPmpaddr6 nv wm), (7, .csrPmpaddr7 nv wm),
       (8, .csrPmpaddr8 nv wm), (9, .csrPmpaddr9 nv wm), (10, .csrPmpaddr10 nv wm), (11, .csrPmpaddr11 nv wm),
       (12, .csrPmpaddr12 nv wm), (13, .csrPmpaddr13 nv wm), (14, .csrPmpaddr14 nv wm), (15, .csrPmpaddr15 nv wm)]) : List (Nat × Instr)),
    exec p.2 s = .next (
      let r := s.cfg.xlen.trunc (Config.pmpAddrValue s.draws p.1)
      pmpDone s r (if pureRead s wm then [.pmpAddrRead p.1] else [.pmpAddrRead p.1, .pmpAddrWrite p.1 (merged s r nv wm)]))

/-- mhpmevent3 to 31 and mhpmcounter3 to 31 read 0 and discard writes (R238, R240). -/
def Obligations.EventSelectorsAndMachineCountersReadZero : Prop :=
  ∀ (s : State) (nv wm : Word), reaches s .m → ∀ i ∈ ((
      [.csrMhpmevent3 nv wm, .csrMhpmevent4 nv wm, .csrMhpmevent5 nv wm, .csrMhpmevent6 nv wm, .csrMhpmevent7 nv wm,
       .csrMhpmevent8 nv wm, .csrMhpmevent9 nv wm, .csrMhpmevent10 nv wm, .csrMhpmevent11 nv wm,
       .csrMhpmevent12 nv wm, .csrMhpmevent13 nv wm, .csrMhpmevent14 nv wm, .csrMhpmevent15 nv wm,
       .csrMhpmevent16 nv wm, .csrMhpmevent17 nv wm, .csrMhpmevent18 nv wm, .csrMhpmevent19 nv wm,
       .csrMhpmevent20 nv wm, .csrMhpmevent21 nv wm, .csrMhpmevent22 nv wm, .csrMhpmevent23 nv wm,
       .csrMhpmevent24 nv wm, .csrMhpmevent25 nv wm, .csrMhpmevent26 nv wm, .csrMhpmevent27 nv wm,
       .csrMhpmevent28 nv wm, .csrMhpmevent29 nv wm, .csrMhpmevent30 nv wm, .csrMhpmevent31 nv wm,
       .csrMhpmcounter3 nv wm, .csrMhpmcounter4 nv wm, .csrMhpmcounter5 nv wm, .csrMhpmcounter6 nv wm,
       .csrMhpmcounter7 nv wm, .csrMhpmcounter8 nv wm, .csrMhpmcounter9 nv wm, .csrMhpmcounter10 nv wm,
       .csrMhpmcounter11 nv wm, .csrMhpmcounter12 nv wm, .csrMhpmcounter13 nv wm, .csrMhpmcounter14 nv wm,
       .csrMhpmcounter15 nv wm, .csrMhpmcounter16 nv wm, .csrMhpmcounter17 nv wm, .csrMhpmcounter18 nv wm,
       .csrMhpmcounter19 nv wm, .csrMhpmcounter20 nv wm, .csrMhpmcounter21 nv wm, .csrMhpmcounter22 nv wm,
       .csrMhpmcounter23 nv wm, .csrMhpmcounter24 nv wm, .csrMhpmcounter25 nv wm, .csrMhpmcounter26 nv wm,
       .csrMhpmcounter27 nv wm, .csrMhpmcounter28 nv wm, .csrMhpmcounter29 nv wm, .csrMhpmcounter30 nv wm,
       .csrMhpmcounter31 nv wm]) : List Instr),
    exec i s = .next (accessDone s 0 s.bank [])

/-- mhpmcounter3h to 31h read 0 and discard writes on RV32 (R239). -/
def Obligations.MachineCounterHighHalvesReadZero : Prop :=
  ∀ (s : State) (nv wm : Word), reaches s .m → s.cfg.xlen = .rv32 → ∀ i ∈ ((
      [.csrMhpmcounter3h nv wm, .csrMhpmcounter4h nv wm, .csrMhpmcounter5h nv wm, .csrMhpmcounter6h nv wm,
       .csrMhpmcounter7h nv wm, .csrMhpmcounter8h nv wm, .csrMhpmcounter9h nv wm, .csrMhpmcounter10h nv wm,
       .csrMhpmcounter11h nv wm, .csrMhpmcounter12h nv wm, .csrMhpmcounter13h nv wm, .csrMhpmcounter14h nv wm,
       .csrMhpmcounter15h nv wm, .csrMhpmcounter16h nv wm, .csrMhpmcounter17h nv wm, .csrMhpmcounter18h nv wm,
       .csrMhpmcounter19h nv wm, .csrMhpmcounter20h nv wm, .csrMhpmcounter21h nv wm, .csrMhpmcounter22h nv wm,
       .csrMhpmcounter23h nv wm, .csrMhpmcounter24h nv wm, .csrMhpmcounter25h nv wm, .csrMhpmcounter26h nv wm,
       .csrMhpmcounter27h nv wm, .csrMhpmcounter28h nv wm, .csrMhpmcounter29h nv wm, .csrMhpmcounter30h nv wm,
       .csrMhpmcounter31h nv wm]) : List Instr),
    exec i s = .next (accessDone s 0 s.bank [])

/-- hpmcounter3 to 31 read 0 when their enable bit is set and are denied otherwise (R236). -/
def Obligations.PerformanceCountersGatedZero : Prop :=
  ∀ (s : State) (nv wm : Word), s.cfg.system = true → pureRead s wm → ∀ p ∈ ((
      [(3, .csrHpmcounter3 nv wm), (4, .csrHpmcounter4 nv wm), (5, .csrHpmcounter5 nv wm),
       (6, .csrHpmcounter6 nv wm), (7, .csrHpmcounter7 nv wm), (8, .csrHpmcounter8 nv wm),
       (9, .csrHpmcounter9 nv wm), (10, .csrHpmcounter10 nv wm), (11, .csrHpmcounter11 nv wm),
       (12, .csrHpmcounter12 nv wm), (13, .csrHpmcounter13 nv wm), (14, .csrHpmcounter14 nv wm),
       (15, .csrHpmcounter15 nv wm), (16, .csrHpmcounter16 nv wm), (17, .csrHpmcounter17 nv wm),
       (18, .csrHpmcounter18 nv wm), (19, .csrHpmcounter19 nv wm), (20, .csrHpmcounter20 nv wm),
       (21, .csrHpmcounter21 nv wm), (22, .csrHpmcounter22 nv wm), (23, .csrHpmcounter23 nv wm),
       (24, .csrHpmcounter24 nv wm), (25, .csrHpmcounter25 nv wm), (26, .csrHpmcounter26 nv wm),
       (27, .csrHpmcounter27 nv wm), (28, .csrHpmcounter28 nv wm), (29, .csrHpmcounter29 nv wm),
       (30, .csrHpmcounter30 nv wm), (31, .csrHpmcounter31 nv wm)]) : List (Nat × Instr)),
    exec p.2 s = .next (if counterEnabled s p.1 then accessDone s 0 s.bank [] else accessFailed s .accessDenied)

/-- hpmcounter3h to 31h read 0 on RV32 when the enable bit of their low half is set (R237). -/
def Obligations.PerformanceCounterHighHalvesGatedZero : Prop :=
  ∀ (s : State) (nv wm : Word), s.cfg.system = true → s.cfg.xlen = .rv32 → pureRead s wm → ∀ p ∈ ((
      [(3, .csrHpmcounter3h nv wm), (4, .csrHpmcounter4h nv wm), (5, .csrHpmcounter5h nv wm),
       (6, .csrHpmcounter6h nv wm), (7, .csrHpmcounter7h nv wm), (8, .csrHpmcounter8h nv wm),
       (9, .csrHpmcounter9h nv wm), (10, .csrHpmcounter10h nv wm), (11, .csrHpmcounter11h nv wm),
       (12, .csrHpmcounter12h nv wm), (13, .csrHpmcounter13h nv wm), (14, .csrHpmcounter14h nv wm),
       (15, .csrHpmcounter15h nv wm), (16, .csrHpmcounter16h nv wm), (17, .csrHpmcounter17h nv wm),
       (18, .csrHpmcounter18h nv wm), (19, .csrHpmcounter19h nv wm), (20, .csrHpmcounter20h nv wm),
       (21, .csrHpmcounter21h nv wm), (22, .csrHpmcounter22h nv wm), (23, .csrHpmcounter23h nv wm),
       (24, .csrHpmcounter24h nv wm), (25, .csrHpmcounter25h nv wm), (26, .csrHpmcounter26h nv wm),
       (27, .csrHpmcounter27h nv wm), (28, .csrHpmcounter28h nv wm), (29, .csrHpmcounter29h nv wm),
       (30, .csrHpmcounter30h nv wm), (31, .csrHpmcounter31h nv wm)]) : List (Nat × Instr)),
    exec p.2 s = .next (if counterEnabled s p.1 then accessDone s 0 s.bank [] else accessFailed s .accessDenied)

/-- cycle, instret, mcycle and minstret return the low XLEN bits of the count (R241, R242, R245, R246). -/
def Obligations.CycleAndInstretReadTheCount : Prop :=
  (∀ (s : State) (nv wm : Word), s.cfg.system = true → pureRead s wm →
      exec (.csrCycle nv wm) s = .next (if counterEnabled s 0 then countDone s (s.cfg.xlen.trunc (nextCount s))
        else accessFailed s .accessDenied)
      ∧ exec (.csrInstret nv wm) s = .next (if counterEnabled s 2 then countDone s (s.cfg.xlen.trunc (nextCount s))
        else accessFailed s .accessDenied))
    ∧ (∀ (s : State) (nv wm : Word), reaches s .m →
      exec (.csrMcycle nv wm) s = .next (countDone s (s.cfg.xlen.trunc (nextCount s)))
      ∧ exec (.csrMinstret nv wm) s = .next (countDone s (s.cfg.xlen.trunc (nextCount s))))
    ∧ ∀ s : State, s.count ≤ nextCount s

/-- cycleh, instreth, mcycleh and minstreth return bits 63:32 of the count on RV32 (R243, R244, R247, R248). -/
def Obligations.CounterHighHalvesReadTheCount : Prop :=
  (∀ (s : State) (nv wm : Word), s.cfg.system = true → s.cfg.xlen = .rv32 → pureRead s wm →
      exec (.csrCycleh nv wm) s = .next (if counterEnabled s 0 then countDone s (nextCount s >>> 32)
        else accessFailed s .accessDenied)
      ∧ exec (.csrInstreth nv wm) s = .next (if counterEnabled s 2 then countDone s (nextCount s >>> 32)
        else accessFailed s .accessDenied))
    ∧ ∀ (s : State) (nv wm : Word), reaches s .m → s.cfg.xlen = .rv32 →
      exec (.csrMcycleh nv wm) s = .next (countDone s (nextCount s >>> 32))
      ∧ exec (.csrMinstreth nv wm) s = .next (countDone s (nextCount s >>> 32))

/-- The rows a build does not bind fail with UnsupportedRegister once gating passes (30_encoding.md R99, R100, 43_counters_ids.md R249, 40_dispatch.md R141). -/
def Obligations.NumbersUnboundOnThisBuild : Prop :=
  (∀ (i : Instr) (n : BitVec 12) (nv wm : Word) (s : State), encode i = .call n nv wm →
      s.cfg.isThisHardware = true → (pureRead s wm ∨ n.extractLsb' 10 2 ≠ 3) → n.extractLsb' 8 2 ≤ s.bank.priv.code →
      (n = 0xC01 ∨ n = 0xC81 ∨ (s.cfg.xlen = .rv64 ∧ ((0xB80 ≤ n ∧ n ≤ 0xB9F) ∨ (0xC80 ≤ n ∧ n ≤ 0xC9F)))) →
      exec i s = .next (accessFailed s .unsupportedRegister))
    ∧ ∀ (i : Instr) (n : BitVec 12) (nv wm : Word) (s : State), encode i = .call n nv wm → s.cfg.system = false →
      n ∉ ([0x001, 0x002, 0x003, 0xC00, 0xC01, 0xC02] : List (BitVec 12)) →
      (s.cfg.xlen = .rv64 ∨ n ∉ ([0xC80, 0xC81, 0xC82] : List (BitVec 12))) →
      exec i s = .next (accessFailed s .unsupportedRegister)

/-- fflags, frm and fcsr are denied with FS off, read their fields otherwise, and a write sets FS to 3 and nothing else of mstatus (R260, R261, R262, R263, R264). -/
def Obligations.FloatRegisters : Prop :=
  (∀ (s : State) (nv wm : Word), s.cfg.system = true → s.bank.mstatus &&& 0x6000 ≠ 0 →
      exec (.csrFflags nv wm) s = .next (
        let prior : Word := s.bank.fflags.setWidth 64
        let v := merged s prior nv wm
        if pureRead s wm then accessDone s prior s.bank []
        else accessDone s prior { s.bank with mstatus := s.bank.mstatus ||| 0x6000, fflags := v.setWidth 5 } [])
      ∧ exec (.csrFrm nv wm) s = .next (
        let prior : Word := s.bank.frm.setWidth 64
        let v := merged s prior nv wm
        if pureRead s wm then accessDone s prior s.bank []
        else accessDone s prior { s.bank with mstatus := s.bank.mstatus ||| 0x6000, frm := v.setWidth 3 } [])
      ∧ exec (.csrFcsr nv wm) s = .next (
        let prior : Word := (s.bank.frm.setWidth 64 <<< 5) ||| s.bank.fflags.setWidth 64
        let v := merged s prior nv wm
        if pureRead s wm then accessDone s prior s.bank []
        else accessDone s prior { s.bank with mstatus := s.bank.mstatus ||| 0x6000, frm := v.extractLsb' 5 3, fflags := v.extractLsb' 0 5 } []))
    ∧ ∀ (s : State) (nv wm : Word), s.cfg.system = true → s.bank.mstatus &&& 0x6000 = 0 →
      ∀ i ∈ ([.csrFflags nv wm, .csrFrm nv wm, .csrFcsr nv wm] : List Instr),
        exec i s = .next (accessFailed s .accessDenied)

/-- Without privilege levels the floating-point registers have no gate and no dirty mark (R265). -/
def Obligations.FloatRegistersOfTheUserBuild : Prop :=
  ∀ (s : State) (nv wm : Word), s.cfg.system = false →
      exec (.csrFflagsUserBuild nv wm) s = .next (
        let prior : Word := s.bank.fflags.setWidth 64
        let v := merged s prior nv wm
        if pureRead s wm then accessDone s prior s.bank []
        else accessDone s prior { s.bank with fflags := v.setWidth 5 } [])
      ∧ exec (.csrFrmUserBuild nv wm) s = .next (
        let prior : Word := s.bank.frm.setWidth 64
        let v := merged s prior nv wm
        if pureRead s wm then accessDone s prior s.bank []
        else accessDone s prior { s.bank with frm := v.setWidth 3 } [])
      ∧ exec (.csrFcsrUserBuild nv wm) s = .next (
        let prior : Word := (s.bank.frm.setWidth 64 <<< 5) ||| s.bank.fflags.setWidth 64
        let v := merged s prior nv wm
        if pureRead s wm then accessDone s prior s.bank []
        else accessDone s prior { s.bank with frm := v.extractLsb' 5 3, fflags := v.extractLsb' 0 5 } [])

/-- Without privilege levels cycle, time and instret read the count unchecked and discard writes; their halves do on RV32 (40_dispatch.md R141). -/
def Obligations.CountersOfTheUserBuild : Prop :=
  (∀ (s : State) (nv wm : Word), s.cfg.system = false →
      ∀ i ∈ ([.csrCycleUserBuild nv wm, .csrTimeUserBuild nv wm, .csrInstretUserBuild nv wm] : List Instr),
        exec i s = .next (countDone s (s.cfg.xlen.trunc (nextCount s))))
    ∧ ∀ (s : State) (nv wm : Word), s.cfg.system = false → s.cfg.xlen = .rv32 →
      ∀ i ∈ ([.csrCyclehUserBuild nv wm, .csrTimehUserBuild nv wm, .csrInstrethUserBuild nv wm] : List Instr),
        exec i s = .next (countDone s (nextCount s >>> 32))

/-- Each CSR instruction makes the call R96 maps it to; on success rd takes the prior value and the next instruction follows (30_encoding.md R96, 95_test_vectors.md P1 (the pc), assumption 17). That the pc moves four bytes on is read from R95 and the programs (assumption 17). -/
def Obligations.CsrInstructionsRetire : Prop :=
  (∀ (csr : BitVec 12) (rs1 rd : BitVec 5) (s u : State) (p : Word),
      accessRegister csr (s.readX rs1) s.cfg.xlen.ones s = u → u.result = some (.success p) →
      exec (.csrrw csr rs1 rd) s = .next (retired u rd p))
    ∧ (∀ (csr : BitVec 12) (rs1 rd : BitVec 5) (s u : State) (p : Word),
      accessRegister csr s.cfg.xlen.ones (if rs1 = 0 then 0 else s.readX rs1) s = u → u.result = some (.success p) →
      exec (.csrrs csr rs1 rd) s = .next (retired u rd p))
    ∧ (∀ (csr : BitVec 12) (rs1 rd : BitVec 5) (s u : State) (p : Word),
      accessRegister csr 0 (if rs1 = 0 then 0 else s.readX rs1) s = u → u.result = some (.success p) →
      exec (.csrrc csr rs1 rd) s = .next (retired u rd p))
    ∧ (∀ (csr : BitVec 12) (uimm rd : BitVec 5) (s u : State) (p : Word),
      accessRegister csr (uimm.setWidth 64) s.cfg.xlen.ones s = u → u.result = some (.success p) →
      exec (.csrrwi csr uimm rd) s = .next (retired u rd p))
    ∧ (∀ (csr : BitVec 12) (uimm rd : BitVec 5) (s u : State) (p : Word),
      accessRegister csr s.cfg.xlen.ones (uimm.setWidth 64) s = u → u.result = some (.success p) →
      exec (.csrrsi csr uimm rd) s = .next (retired u rd p))
    ∧ (∀ (csr : BitVec 12) (uimm rd : BitVec 5) (s u : State) (p : Word),
      accessRegister csr 0 (uimm.setWidth 64) s = u → u.result = some (.success p) →
      exec (.csrrci csr uimm rd) s = .next (retired u rd p))

/-- A CSR instruction whose access fails takes the illegal-instruction trap and leaves its destination register (60_exceptions.md R300, R303, R309, 30_encoding.md R96, assumption 9). The trap value is a free value, which is the model's choice (assumption 9). -/
def Obligations.CsrInstructionsTrapOnFailure : Prop :=
  ∀ (i : Instr) (csr : BitVec 12) (f rd : BitVec 5) (nv wm : Word) (s : State) (k : CsrError),
    (i, nv, wm) ∈ ([(.csrrw csr f rd, s.readX f, s.cfg.xlen.ones),
      (.csrrs csr f rd, s.cfg.xlen.ones, if f = 0 then 0 else s.readX f),
      (.csrrc csr f rd, 0, if f = 0 then 0 else s.readX f),
      (.csrrwi csr f rd, f.setWidth 64, s.cfg.xlen.ones),
      (.csrrsi csr f rd, s.cfg.xlen.ones, f.setWidth 64),
      (.csrrci csr f rd, 0, f.setWidth 64)] : List (Instr × Word × Word)) →
    (accessRegister csr nv wm s).result = some (.failure k) →
    ∃ m : Word,
      (s.bank.priv = .m ∨ s.bank.medeleg.getLsbD 2 = false →
        exec i s = .next { accessFailed s k with
          draws := s.draws + 1
          pc := s.bank.mtvec
          bank := { s.bank with
            mepc := s.pc, mcause := 2, mbadaddr := s.cfg.xlen.trunc (Config.trapValue s.draws), mstatus := m, priv := .m } }
        ∧ m.getLsbD 7 = s.bank.mstatus.getLsbD 3 ∧ m.getLsbD 3 = false ∧ m.extractLsb' 11 2 = s.bank.priv.code
        ∧ ∀ j, j ∉ [3, 7, 11, 12] → m.getLsbD j = s.bank.mstatus.getLsbD j)
      ∧ (s.bank.priv ≠ .m ∧ s.bank.medeleg.getLsbD 2 = true →
        exec i s = .next { accessFailed s k with
          draws := s.draws + 1
          pc := s.bank.stvec
          bank := { s.bank with
            sepc := s.pc, scause := 2, sbadaddr := s.cfg.xlen.trunc (Config.trapValue s.draws), mstatus := m, priv := .s } }
        ∧ m.getLsbD 5 = s.bank.mstatus.getLsbD 1 ∧ m.getLsbD 1 = false ∧ m.getLsbD 8 = s.bank.priv.code.getLsbD 0
        ∧ ∀ j, j ∉ [1, 5, 8] → m.getLsbD j = s.bank.mstatus.getLsbD j)

/-- The six CSR instructions write, set and clear mscratch and return its old value (30_encoding.md R95, R96, 95_test_vectors.md P1 (the pc), assumption 17). That the pc moves four bytes on is read from R95 and the programs (assumption 17). -/
def Obligations.CsrInstructionsOnScratch : Prop :=
  (∀ (rs1 rd : BitVec 5) (s : State), reaches s .m → s.bank.mscratch.fits s.cfg.xlen →
      exec (.csrrw 0x340 rs1 rd) s = .next (retired (accessDone s s.bank.mscratch
        { s.bank with mscratch := s.cfg.xlen.trunc (s.readX rs1) } []) rd s.bank.mscratch))
    ∧ (∀ (rs1 rd : BitVec 5) (s : State), reaches s .m → s.bank.mscratch.fits s.cfg.xlen →
      exec (.csrrs 0x340 rs1 rd) s = .next (retired (accessDone s s.bank.mscratch
        { s.bank with mscratch := s.bank.mscratch ||| s.cfg.xlen.trunc (s.readX rs1) } []) rd s.bank.mscratch))
    ∧ (∀ (rs1 rd : BitVec 5) (s : State), reaches s .m → s.bank.mscratch.fits s.cfg.xlen →
      exec (.csrrc 0x340 rs1 rd) s = .next (retired (accessDone s s.bank.mscratch
        { s.bank with mscratch := s.bank.mscratch &&& ~~~s.cfg.xlen.trunc (s.readX rs1) } []) rd s.bank.mscratch))
    ∧ (∀ (uimm rd : BitVec 5) (s : State), reaches s .m → s.bank.mscratch.fits s.cfg.xlen →
      exec (.csrrwi 0x340 uimm rd) s = .next (retired (accessDone s s.bank.mscratch
        { s.bank with mscratch := uimm.setWidth 64 } []) rd s.bank.mscratch))
    ∧ (∀ (uimm rd : BitVec 5) (s : State), reaches s .m → s.bank.mscratch.fits s.cfg.xlen →
      exec (.csrrsi 0x340 uimm rd) s = .next (retired (accessDone s s.bank.mscratch
        { s.bank with mscratch := s.bank.mscratch ||| uimm.setWidth 64 } []) rd s.bank.mscratch))
    ∧ (∀ (uimm rd : BitVec 5) (s : State), reaches s .m → s.bank.mscratch.fits s.cfg.xlen →
      exec (.csrrci 0x340 uimm rd) s = .next (retired (accessDone s s.bank.mscratch
        { s.bank with mscratch := s.bank.mscratch &&& ~~~uimm.setWidth 64 } []) rd s.bank.mscratch))

/-- On every read-only number a zero source makes csrrs and csrrc a pure read, and csrrw and csrrwi always trap; mhartid shows it (30_encoding.md R96 (consequences), R95, 40_dispatch.md R122, 43_counters_ids.md R234, 60_exceptions.md R300, R309, 95_test_vectors.md I8 to I11, assumptions 9, 17). The trap value is a free value, which is the model's choice (assumption 9); the pc step is read from R95 and the programs (assumption 17). -/
def Obligations.SourceHoldingZeroIsAPureRead : Prop :=
  (∀ (csr : BitVec 12) (rs1 rd : BitVec 5) (s : State), csr.extractLsb' 10 2 = 3 →
      ∀ i : Instr, (i ∈ ([.csrrs csr rs1 rd, .csrrc csr rs1 rd] : List Instr) ∧ s.cfg.xlen.trunc (s.readX rs1) = 0
          ∨ i ∈ ([.csrrsi csr 0 rd, .csrrci csr 0 rd] : List Instr)) →
        (∀ p, (accessRegister csr 0 0 s).result = some (.success p) →
          exec i s = .next (retired (accessRegister csr 0 0 s) rd p))
        ∧ ∀ k, (accessRegister csr 0 0 s).result = some (.failure k) → exec i s = .next (trapped s k))
    ∧ (∀ (csr : BitVec 12) (f rd : BitVec 5) (s : State), csr.extractLsb' 10 2 = 3 → s.cfg.system = true →
      exec (.csrrw csr f rd) s = .next (trapped s .accessDenied)
      ∧ exec (.csrrwi csr f rd) s = .next (trapped s .accessDenied))
    ∧ (∀ (rs1 rd : BitVec 5) (s : State), reaches s .m → s.cfg.xlen.trunc (s.readX rs1) = 0 →
      exec (.csrrs 0xF14 rs1 rd) s = .next (retired (accessDone s s.cfg.mhartid s.bank []) rd s.cfg.mhartid)
      ∧ exec (.csrrc 0xF14 rs1 rd) s = .next (retired (accessDone s s.cfg.mhartid s.bank []) rd s.cfg.mhartid))
    ∧ ∀ (rd : BitVec 5) (s : State), reaches s .m →
      exec (.csrrsi 0xF14 0 rd) s = .next (retired (accessDone s s.cfg.mhartid s.bank []) rd s.cfg.mhartid)
      ∧ exec (.csrrci 0xF14 0 rd) s = .next (retired (accessDone s s.cfg.mhartid s.bank []) rd s.cfg.mhartid)

/-- Trap entry saves pc, cause and trap value, stacks the enable and the level, and goes to the vector of its target (R309). -/
def Obligations.TrapEntrySavesAndRedirects : Prop :=
  ∀ (s : State) (c : TrapCause) (v : Word) (rest : List Input), s.inbox = .trapEntry c v :: rest →
    ∃ m : Word,
      let toS : Bool := s.bank.priv != .m && (match c with
        | .exception e => s.bank.medeleg.getLsbD e.code
        | .interrupt j => s.bank.mideleg.getLsbD j.bit)
      (toS = false →
        step s = .next { s with inbox := rest, result := none, events := [], pc := s.bank.mtvec, bank := { s.bank with
          mepc := s.pc, mcause := c.word s.cfg.xlen, mbadaddr := s.cfg.xlen.trunc v, mstatus := m, priv := .m } }
        ∧ m.getLsbD 7 = s.bank.mstatus.getLsbD 3 ∧ m.getLsbD 3 = false ∧ m.extractLsb' 11 2 = s.bank.priv.code
        ∧ ∀ k, k ∉ [3, 7, 11, 12] → m.getLsbD k = s.bank.mstatus.getLsbD k)
      ∧ (toS = true →
        step s = .next { s with inbox := rest, result := none, events := [], pc := s.bank.stvec, bank := { s.bank with
          sepc := s.pc, scause := c.word s.cfg.xlen, sbadaddr := s.cfg.xlen.trunc v, mstatus := m, priv := .s } }
        ∧ m.getLsbD 5 = s.bank.mstatus.getLsbD 1 ∧ m.getLsbD 1 = false
        ∧ m.getLsbD 8 = s.bank.priv.code.getLsbD 0
        ∧ ∀ k, k ∉ [1, 5, 8] → m.getLsbD k = s.bank.mstatus.getLsbD k)

/-- The cause words are the codes of the table, and an interrupt sets bit XLEN-1 (60_exceptions.md R303, R304). -/
def Obligations.CauseWordsOfTheTable : Prop :=
  (∀ x : Xlen, ([.instrMisaligned, .instrAccessFault, .illegalInstruction, .breakpoint, .loadMisaligned, .loadAccessFault,
      .storeMisaligned, .storeAccessFault, .ecallU, .ecallS, .ecallH, .ecallM, .instrPageFault, .loadPageFault,
      .storePageFault] : List ExceptionCause).map (fun e => (TrapCause.exception e).word x)
        = [0, 1, 2, 3, 4, 5, 6, 7, 8, 9, 10, 11, 12, 13, 15])
    ∧ ([.ssi, .msi, .sti, .mti, .sei, .mei] : List InterruptSource).map (fun j => (TrapCause.interrupt j).word .rv32)
        = [0x80000001, 0x80000003, 0x80000005, 0x80000007, 0x80000009, 0x8000000B]
    ∧ ([.ssi, .msi, .sti, .mti, .sei, .mei] : List InterruptSource).map (fun j => (TrapCause.interrupt j).word .rv64)
        = [0x8000000000000001, 0x8000000000000003, 0x8000000000000005, 0x8000000000000007, 0x8000000000000009,
           0x800000000000000B]

/-- mret and sret restore the level, the enable and the pc (60_exceptions.md R310, assumptions 10, 12, 27). The stops (assumption 10), the free level of a return to level 2 (assumption 12) and SPP 0 where U is absent (assumption 27) are the model's choices. -/
def Obligations.TrapReturnRestores : Prop :=
  (∀ (s : State) (p : Priv) (rest : List Input), s.inbox = .mret :: rest → s.bank.priv = .m →
      s.bank.mstatus.extractLsb' 11 2 = p.code →
      ∃ m, step s = .next { s with
          inbox := rest, result := none, events := [], pc := s.bank.mepc, draws := s.draws + 1
          bank := { s.bank with priv := p, mstatus := m } }
        ∧ m.getLsbD 3 = s.bank.mstatus.getLsbD 7 ∧ m.getLsbD 7 = true
        ∧ m.extractLsb' 11 2 = (if s.cfg.misa.getLsbD 20 then 0 else 3)
        ∧ ∀ k, k ∉ [3, 7, 11, 12] → m.getLsbD k = s.bank.mstatus.getLsbD k)
    ∧ (∀ (s : State) (rest : List Input), s.inbox = .mret :: rest → s.bank.priv = .m →
      s.bank.mstatus.extractLsb' 11 2 = 2 →
      ∃ m, step s = .next { s with
          inbox := rest, result := none, events := [], pc := s.bank.mepc, draws := s.draws + 1
          bank := { s.bank with priv := Config.returnLevel s.draws, mstatus := m } }
        ∧ m.getLsbD 3 = s.bank.mstatus.getLsbD 7 ∧ m.getLsbD 7 = true
        ∧ m.extractLsb' 11 2 = (if s.cfg.misa.getLsbD 20 then 0 else 3)
        ∧ ∀ k, k ∉ [3, 7, 11, 12] → m.getLsbD k = s.bank.mstatus.getLsbD k)
    ∧ (∀ (s : State) (rest : List Input), s.inbox = .sret :: rest → s.bank.priv ≠ .u →
      ∃ m, step s = .next { s with
          inbox := rest, result := none, events := [], pc := s.bank.sepc
          bank := { s.bank with priv := if s.bank.mstatus.getLsbD 8 then .s else .u, mstatus := m } }
        ∧ m.getLsbD 1 = s.bank.mstatus.getLsbD 5 ∧ m.getLsbD 5 = true ∧ m.getLsbD 8 = false
        ∧ ∀ k, k ∉ [1, 5, 8] → m.getLsbD k = s.bank.mstatus.getLsbD k)
    ∧ (∀ (s : State) (rest : List Input), s.inbox = .mret :: rest → s.bank.priv ≠ .m →
      step s = .fault .returnNotAllowed)
    ∧ ∀ (s : State) (rest : List Input), s.inbox = .sret :: rest → s.bank.priv = .u → step s = .fault .returnNotAllowed

/-- The trap port writes its field directly, with no masking and no event (R308). -/
def Obligations.TrapPortWritesDirectly : Prop :=
  ∀ (s : State) (p : Priv) (v : Word) (rest : List Input), v.fits s.cfg.xlen →
    ∀ w ∈ ([(.priv p, { s.bank with priv := p }), (.mstatus v, { s.bank with mstatus := v }),
        (.mepc v, { s.bank with mepc := v }), (.mcause v, { s.bank with mcause := v }),
        (.mbadaddr v, { s.bank with mbadaddr := v }), (.sepc v, { s.bank with sepc := v }),
        (.scause v, { s.bank with scause := v }), (.sbadaddr v, { s.bank with sbadaddr := v })]
        : List (TrapPortWrite × Bank)),
      s.inbox = .trapPort w.1 :: rest →
      step s = .next { s with inbox := rest, bank := w.2, result := none, events := [] }

/-- Reset leaves M as the level, 0 in every other bank field, and everything outside the bank as it was (70_reset_and_hazards.md R340, R341, R342, R343, 10_state.md R46, R47, assumption 13). That the general registers, the pc, the lock and the last count survive is read from R341, R46 and R47 (assumption 13). -/
def Obligations.ThreadResetValues : Prop :=
  (∀ (s : State) (rest : List Input), s.inbox = .threadReset :: rest →
      step s = .next { s with inbox := rest, result := none, events := [], bank :=
        { priv := .m, mstatus := 0, mie := 0, mip := 0, mideleg := 0, medeleg := 0, mtvec := 0, stvec := 0, mepc := 0,
          sepc := 0, mcause := 0, scause := 0, mbadaddr := 0, sbadaddr := 0, mscratch := 0, sscratch := 0, satp := 0,
          sptbr := 0, mcounteren := 0, scounteren := 0, frm := 0, fflags := 0 } })
    ∧ State.reset.bank =
        { priv := .m, mstatus := 0, mie := 0, mip := 0, mideleg := 0, medeleg := 0, mtvec := 0, stvec := 0, mepc := 0,
          sepc := 0, mcause := 0, scause := 0, mbadaddr := 0, sbadaddr := 0, mscratch := 0, sscratch := 0, satp := 0,
          sptbr := 0, mcounteren := 0, scounteren := 0, frm := 0, fflags := 0 }

/-- The trap logic takes the first pending, enabled and allowed interrupt in the order MEI, MSI, MTI, SEI, SSI, STI (60_exceptions.md R306, R309, assumption 11). -/
def Obligations.InterruptTakenByPriority : Prop :=
  ∀ (s : State) (rest : List Input), s.inbox = .pollInterrupts :: rest →
    let ready : InterruptSource → Bool := fun j =>
      s.bank.mip.getLsbD j.bit && s.bank.mie.getLsbD j.bit
        && (if s.bank.mideleg.getLsbD j.bit then s.bank.priv == .u || (s.bank.priv == .s && s.bank.mstatus.getLsbD 1)
            else s.bank.priv != .m || s.bank.mstatus.getLsbD 3)
    ((∀ j, ready j = false) → step s = .next { s with inbox := rest, result := none, events := [] })
    ∧ ∀ (before after : List InterruptSource) (j : InterruptSource),
      [.mei, .msi, .mti, .sei, .ssi, .sti] = before ++ j :: after → (∀ k ∈ before, ready k = false) → ready j = true →
      step s = .next (takeTrap (.interrupt j) (Config.trapValue s.draws)
        { s with inbox := rest, result := none, events := [], draws := s.draws + 1 })

/-- The interrupt controller can change any bits of mip under the lock, and only them (60_exceptions.md R305, 20_memory.md R76, 92_eei_decisions.md D27, assumption 16). That an update is two inputs, the word changing at the second, is the model's choice (assumption 16). -/
def Obligations.ControllerUpdatesPendingWord : Prop :=
  (∀ (s : State) (m v : BitVec 32) (rest : List Input), s.inbox = .controllerLock m v :: rest → s.irqLock = .free →
      step s = .next { s with inbox := rest, result := none, events := [], irqLock := .heldByController m v })
    ∧ ∀ (s : State) (m v : BitVec 32) (rest : List Input), s.inbox = .controllerUnlock :: rest →
      s.irqLock = .heldByController m v →
      step s = .next { s with
        inbox := rest, result := none, events := [], irqLock := .free
        bank := { s.bank with mip := (s.bank.mip &&& ~~~m) ||| (v &&& m) } }

/-- The floating-point unit sets fflags, and the execution engine its own registers; register 0 stays 0 (10_state.md R43, R47, 30_encoding.md R96 (x[0]), assumptions 8, 21, 23). The inputs are the model's: the unit changes fflags alone (assumption 21), the engine's acts are setX and setPc (assumption 23), cut to XLEN bits (assumption 8); R47 only says that the registers are the engine's. -/
def Obligations.EngineAndFloatUnitInputs : Prop :=
  (∀ (s : State) (f : BitVec 5) (rest : List Input), s.inbox = .fpuSetFlags f :: rest →
      step s = .next { s with inbox := rest, result := none, events := [], bank := { s.bank with fflags := f } })
    ∧ (∀ (s : State) (r : BitVec 5) (v : Word) (rest : List Input), s.inbox = .setX r v :: rest →
      step s = .next { s with
        inbox := rest, result := none, events := []
        x := if r = 0 then s.x else s.x.set r.toNat (s.cfg.xlen.trunc v) r.isLt })
    ∧ ∀ (s : State) (v : Word) (rest : List Input), s.inbox = .setPc v :: rest →
      step s = .next { s with inbox := rest, result := none, events := [], pc := s.cfg.xlen.trunc v }
end

