-- ==== Sys2Proof/Laws/State.lean ====
section
/-! SUPPORT. One lemma per field per update of the state, so that no later proof unfolds a record update. -/

namespace Sys2Proof.Machine

@[simp] theorem setBank_cfg (s : State) (b : Bank) : (s.setBank b).cfg = s.cfg := by rfl
@[simp] theorem setBank_bank (s : State) (b : Bank) : (s.setBank b).bank = b := by rfl
@[simp] theorem setBank_irqLock (s : State) (b : Bank) : (s.setBank b).irqLock = s.irqLock := by rfl
@[simp] theorem setBank_count (s : State) (b : Bank) : (s.setBank b).count = s.count := by rfl
@[simp] theorem setBank_x (s : State) (b : Bank) : (s.setBank b).x = s.x := by rfl
@[simp] theorem setBank_pc (s : State) (b : Bank) : (s.setBank b).pc = s.pc := by rfl
@[simp] theorem setBank_result (s : State) (b : Bank) : (s.setBank b).result = s.result := by rfl
@[simp] theorem setBank_events (s : State) (b : Bank) : (s.setBank b).events = s.events := by rfl
@[simp] theorem setBank_inbox (s : State) (b : Bank) : (s.setBank b).inbox = s.inbox := by rfl
@[simp] theorem setBank_draws (s : State) (b : Bank) : (s.setBank b).draws = s.draws := by rfl

@[simp] theorem emit_cfg (s : State) (e : Event) : (s.emit e).cfg = s.cfg := by rfl
@[simp] theorem emit_bank (s : State) (e : Event) : (s.emit e).bank = s.bank := by rfl
@[simp] theorem emit_irqLock (s : State) (e : Event) : (s.emit e).irqLock = s.irqLock := by rfl
@[simp] theorem emit_count (s : State) (e : Event) : (s.emit e).count = s.count := by rfl
@[simp] theorem emit_x (s : State) (e : Event) : (s.emit e).x = s.x := by rfl
@[simp] theorem emit_pc (s : State) (e : Event) : (s.emit e).pc = s.pc := by rfl
@[simp] theorem emit_result (s : State) (e : Event) : (s.emit e).result = s.result := by rfl
@[simp] theorem emit_events (s : State) (e : Event) : (s.emit e).events = s.events ++ [e] := by rfl
@[simp] theorem emit_inbox (s : State) (e : Event) : (s.emit e).inbox = s.inbox := by rfl
@[simp] theorem emit_draws (s : State) (e : Event) : (s.emit e).draws = s.draws := by rfl

@[simp] theorem drawn_cfg (s : State) : (s.drawn).cfg = s.cfg := by rfl
@[simp] theorem drawn_bank (s : State) : (s.drawn).bank = s.bank := by rfl
@[simp] theorem drawn_irqLock (s : State) : (s.drawn).irqLock = s.irqLock := by rfl
@[simp] theorem drawn_count (s : State) : (s.drawn).count = s.count := by rfl
@[simp] theorem drawn_x (s : State) : (s.drawn).x = s.x := by rfl
@[simp] theorem drawn_pc (s : State) : (s.drawn).pc = s.pc := by rfl
@[simp] theorem drawn_result (s : State) : (s.drawn).result = s.result := by rfl
@[simp] theorem drawn_events (s : State) : (s.drawn).events = s.events := by rfl
@[simp] theorem drawn_inbox (s : State) : (s.drawn).inbox = s.inbox := by rfl
@[simp] theorem drawn_draws (s : State) : (s.drawn).draws = s.draws + 1 := by rfl

@[simp] theorem clearOutput_cfg (s : State) : (s.clearOutput).cfg = s.cfg := by rfl
@[simp] theorem clearOutput_bank (s : State) : (s.clearOutput).bank = s.bank := by rfl
@[simp] theorem clearOutput_irqLock (s : State) : (s.clearOutput).irqLock = s.irqLock := by rfl
@[simp] theorem clearOutput_count (s : State) : (s.clearOutput).count = s.count := by rfl
@[simp] theorem clearOutput_x (s : State) : (s.clearOutput).x = s.x := by rfl
@[simp] theorem clearOutput_pc (s : State) : (s.clearOutput).pc = s.pc := by rfl
@[simp] theorem clearOutput_result (s : State) : (s.clearOutput).result = none := by rfl
@[simp] theorem clearOutput_events (s : State) : (s.clearOutput).events = [] := by rfl
@[simp] theorem clearOutput_inbox (s : State) : (s.clearOutput).inbox = s.inbox := by rfl
@[simp] theorem clearOutput_draws (s : State) : (s.clearOutput).draws = s.draws := by rfl

@[simp] theorem setPc_cfg (s : State) (v : Word) : (s.setPc v).cfg = s.cfg := by rfl
@[simp] theorem setPc_bank (s : State) (v : Word) : (s.setPc v).bank = s.bank := by rfl
@[simp] theorem setPc_irqLock (s : State) (v : Word) : (s.setPc v).irqLock = s.irqLock := by rfl
@[simp] theorem setPc_count (s : State) (v : Word) : (s.setPc v).count = s.count := by rfl
@[simp] theorem setPc_x (s : State) (v : Word) : (s.setPc v).x = s.x := by rfl
@[simp] theorem setPc_pc (s : State) (v : Word) : (s.setPc v).pc = s.cfg.xlen.trunc v := by rfl
@[simp] theorem setPc_result (s : State) (v : Word) : (s.setPc v).result = s.result := by rfl
@[simp] theorem setPc_events (s : State) (v : Word) : (s.setPc v).events = s.events := by rfl
@[simp] theorem setPc_inbox (s : State) (v : Word) : (s.setPc v).inbox = s.inbox := by rfl
@[simp] theorem setPc_draws (s : State) (v : Word) : (s.setPc v).draws = s.draws := by rfl

@[simp] theorem advancePc_cfg (s : State) : (s.advancePc).cfg = s.cfg := by rfl
@[simp] theorem advancePc_bank (s : State) : (s.advancePc).bank = s.bank := by rfl
@[simp] theorem advancePc_irqLock (s : State) : (s.advancePc).irqLock = s.irqLock := by rfl
@[simp] theorem advancePc_count (s : State) : (s.advancePc).count = s.count := by rfl
@[simp] theorem advancePc_x (s : State) : (s.advancePc).x = s.x := by rfl
@[simp] theorem advancePc_pc (s : State) : (s.advancePc).pc = s.cfg.xlen.trunc (s.pc + 4) := by rfl
@[simp] theorem advancePc_result (s : State) : (s.advancePc).result = s.result := by rfl
@[simp] theorem advancePc_events (s : State) : (s.advancePc).events = s.events := by rfl
@[simp] theorem advancePc_inbox (s : State) : (s.advancePc).inbox = s.inbox := by rfl
@[simp] theorem advancePc_draws (s : State) : (s.advancePc).draws = s.draws := by rfl

@[simp] theorem writeX_cfg (s : State) (r : BitVec 5) (v : Word) : (s.writeX r v).cfg = s.cfg := by
  unfold State.writeX; split <;> rfl
@[simp] theorem writeX_bank (s : State) (r : BitVec 5) (v : Word) : (s.writeX r v).bank = s.bank := by
  unfold State.writeX; split <;> rfl
@[simp] theorem writeX_irqLock (s : State) (r : BitVec 5) (v : Word) : (s.writeX r v).irqLock = s.irqLock := by
  unfold State.writeX; split <;> rfl
@[simp] theorem writeX_count (s : State) (r : BitVec 5) (v : Word) : (s.writeX r v).count = s.count := by
  unfold State.writeX; split <;> rfl
@[simp] theorem writeX_pc (s : State) (r : BitVec 5) (v : Word) : (s.writeX r v).pc = s.pc := by
  unfold State.writeX; split <;> rfl
@[simp] theorem writeX_result (s : State) (r : BitVec 5) (v : Word) : (s.writeX r v).result = s.result := by
  unfold State.writeX; split <;> rfl
@[simp] theorem writeX_events (s : State) (r : BitVec 5) (v : Word) : (s.writeX r v).events = s.events := by
  unfold State.writeX; split <;> rfl
@[simp] theorem writeX_inbox (s : State) (r : BitVec 5) (v : Word) : (s.writeX r v).inbox = s.inbox := by
  unfold State.writeX; split <;> rfl
@[simp] theorem writeX_draws (s : State) (r : BitVec 5) (v : Word) : (s.writeX r v).draws = s.draws := by
  unfold State.writeX; split <;> rfl

/-- What a write of a general register leaves in the registers (R96). -/
theorem writeX_x (s : State) (r : BitVec 5) (v : Word) :
    (s.writeX r v).x = if r = 0 then s.x else s.x.set r.toNat (s.cfg.xlen.trunc v) r.isLt := by
  unfold State.writeX; split <;> rfl

@[simp] theorem readX_zero (s : State) : s.readX 0 = 0 := by simp [State.readX]

/-- Reading a register that has just been written. -/
theorem readX_writeX_same (s : State) (r : BitVec 5) (v : Word) (h : r ≠ 0) :
    (s.writeX r v).readX r = s.cfg.xlen.trunc v := by
  unfold State.readX State.writeX
  simp only [if_neg h, Vector.getElem_set_self]

/-- A write leaves every other register alone. -/
theorem readX_writeX_other (s : State) (r q : BitVec 5) (v : Word) (h : q ≠ r) :
    (s.writeX r v).readX q = s.readX q := by
  have hn : r.toNat ≠ q.toNat := fun e => h (BitVec.eq_of_toNat_eq e.symm)
  unfold State.readX State.writeX
  by_cases hr : r = 0
  · simp only [if_pos hr]
  · by_cases hq : q = 0
    · simp only [if_pos hq]
    · simp only [if_neg hr, if_neg hq]
      exact Vector.getElem_set_ne r.isLt q.isLt hn

/-- Of two updates of the bank the later one stands. -/
@[simp] theorem setBank_setBank (s : State) (b c : Bank) : (s.setBank b).setBank c = s.setBank c := by rfl

end Sys2Proof.Machine
end

