-- ==== Sys2Proof/Laws/Table.lean ====
section
/-! SUPPORT. The entry of every register number: one lemma per number, one per block of numbers (R99, R141). -/

namespace Sys2Proof.Machine

/-- Where an entry comes from: a row of the build's table that binds the number (R93). -/
theorem row_of_accessorEntry (c : Config) (n : BitVec 12) (e : Entry) (h : accessorEntry c n = some e) :
    ∃ r ∈ tableRows c, r.binds c.xlen n.toNat = true ∧ r.entry = e := by
  unfold accessorEntry at h
  obtain ⟨r, hr, rfl⟩ := Option.map_eq_some_iff.mp h
  exact ⟨r, List.mem_of_find?_eq_some hr, List.find?_some hr, rfl⟩

/-- A number that no row binds has no entry (R93). -/
theorem accessorEntry_none (c : Config) (n : BitVec 12) (h : ∀ r ∈ tableRows c, r.binds c.xlen n.toNat = false) :
    accessorEntry c n = none := by
  unfold accessorEntry
  rw [Option.map_eq_none_iff, List.find?_eq_none]
  intro r hr
  simp [h r hr]

section Full

variable (c : Config) (h : c.system = true)

include h in
theorem entry_fflags : accessorEntry c 0x001 = some (.readWrite readFflags writeFflags) := by
  unfold accessorEntry tableRows
  rw [if_pos h]
  exact rfl

include h in
theorem entry_frm : accessorEntry c 0x002 = some (.readWrite readFrm writeFrm) := by
  unfold accessorEntry tableRows
  rw [if_pos h]
  exact rfl

include h in
theorem entry_fcsr : accessorEntry c 0x003 = some (.readWrite readFcsr writeFcsr) := by
  unfold accessorEntry tableRows
  rw [if_pos h]
  exact rfl

include h in
theorem entry_sstatus : accessorEntry c 0x100 = some (.readWrite readSstatus writeSstatus) := by
  unfold accessorEntry tableRows
  rw [if_pos h]
  exact rfl

include h in
theorem entry_sie : accessorEntry c 0x104 = some (.readWrite readSie writeSie) := by
  unfold accessorEntry tableRows
  rw [if_pos h]
  exact rfl

include h in
theorem entry_stvec : accessorEntry c 0x105 = some (.readWrite readStvec writeStvec) := by
  unfold accessorEntry tableRows
  rw [if_pos h]
  exact rfl

include h in
theorem entry_scounteren : accessorEntry c 0x106 = some (.readWrite readScounteren writeScounteren) := by
  unfold accessorEntry tableRows
  rw [if_pos h]
  exact rfl

include h in
theorem entry_sscratch : accessorEntry c 0x140 = some (.readWrite readSscratch writeSscratch) := by
  unfold accessorEntry tableRows
  rw [if_pos h]
  exact rfl

include h in
theorem entry_sepc : accessorEntry c 0x141 = some (.readWrite readSepc writeSepc) := by
  unfold accessorEntry tableRows
  rw [if_pos h]
  exact rfl

include h in
theorem entry_scause : accessorEntry c 0x142 = some (.readWrite readScause writeScause) := by
  unfold accessorEntry tableRows
  rw [if_pos h]
  exact rfl

include h in
theorem entry_sbadaddr : accessorEntry c 0x143 = some (.readWrite readSbadaddr writeSbadaddr) := by
  unfold accessorEntry tableRows
  rw [if_pos h]
  exact rfl

include h in
theorem entry_satp : accessorEntry c 0x180 = some (.readWrite readSatp writeSatp) := by
  unfold accessorEntry tableRows
  rw [if_pos h]
  exact rfl

include h in
theorem entry_medeleg : accessorEntry c 0x302 = some (.readWrite readMedeleg writeMedeleg) := by
  unfold accessorEntry tableRows
  rw [if_pos h]
  exact rfl

include h in
theorem entry_mideleg : accessorEntry c 0x303 = some (.readWrite readMideleg writeMideleg) := by
  unfold accessorEntry tableRows
  rw [if_pos h]
  exact rfl

include h in
theorem entry_mtvec : accessorEntry c 0x305 = some (.readWrite readMtvec writeMtvec) := by
  unfold accessorEntry tableRows
  rw [if_pos h]
  exact rfl

include h in
theorem entry_mcounteren : accessorEntry c 0x306 = some (.readWrite readMcounteren writeMcounteren) := by
  unfold accessorEntry tableRows
  rw [if_pos h]
  exact rfl

include h in
theorem entry_mucounteren : accessorEntry c 0x320 = some (.readWrite readMucounteren writeMucounteren) := by
  unfold accessorEntry tableRows
  rw [if_pos h]
  exact rfl

include h in
theorem entry_mscounteren : accessorEntry c 0x321 = some (.readWrite readMscounteren writeMscounteren) := by
  unfold accessorEntry tableRows
  rw [if_pos h]
  exact rfl

include h in
theorem entry_mscratch : accessorEntry c 0x340 = some (.readWrite readMscratch writeMscratch) := by
  unfold accessorEntry tableRows
  rw [if_pos h]
  exact rfl

include h in
theorem entry_mepc : accessorEntry c 0x341 = some (.readWrite readMepc writeMepc) := by
  unfold accessorEntry tableRows
  rw [if_pos h]
  exact rfl

include h in
theorem entry_mcause : accessorEntry c 0x342 = some (.readWrite readMcause writeMcause) := by
  unfold accessorEntry tableRows
  rw [if_pos h]
  exact rfl

include h in
theorem entry_mbadaddr : accessorEntry c 0x343 = some (.readWrite readMbadaddr writeMbadaddr) := by
  unfold accessorEntry tableRows
  rw [if_pos h]
  exact rfl

include h in
theorem entry_mstatus : accessorEntry c 0x300 = some (.readWrite readMstatus writeMstatusCsr) := by
  unfold accessorEntry tableRows
  rw [if_pos h]
  exact rfl

include h in
theorem entry_mie : accessorEntry c 0x304 = some (.readWrite readMie writeMieCsr) := by
  unfold accessorEntry tableRows
  rw [if_pos h]
  exact rfl

include h in
theorem entry_sip : accessorEntry c 0x144 = some (.combinedRmw rmwSip) := by
  unfold accessorEntry tableRows
  rw [if_pos h]
  exact rfl

include h in
theorem entry_mip : accessorEntry c 0x344 = some (.combinedRmw rmwMip) := by
  unfold accessorEntry tableRows
  rw [if_pos h]
  exact rfl

include h in
theorem entry_misa : accessorEntry c 0x301 = some (.read readMisa) := by
  unfold accessorEntry tableRows
  rw [if_pos h]
  exact rfl

include h in
theorem entry_mcycle : accessorEntry c 0xB00 = some (.read readGatedCount) := by
  unfold accessorEntry tableRows
  rw [if_pos h]
  exact rfl

include h in
theorem entry_minstret : accessorEntry c 0xB02 = some (.read readGatedCount) := by
  unfold accessorEntry tableRows
  rw [if_pos h]
  exact rfl

include h in
theorem entry_cycle : accessorEntry c 0xC00 = some (.read readGatedCount) := by
  unfold accessorEntry tableRows
  rw [if_pos h]
  exact rfl

include h in
theorem entry_instret : accessorEntry c 0xC02 = some (.read readGatedCount) := by
  unfold accessorEntry tableRows
  rw [if_pos h]
  exact rfl

include h in
theorem entry_mcycleh (hx : c.xlen = .rv32) : accessorEntry c 0xB80 = some (.read readGatedCounth) := by
  unfold accessorEntry tableRows
  rw [if_pos h, hx]
  exact rfl

include h in
theorem entry_minstreth (hx : c.xlen = .rv32) : accessorEntry c 0xB82 = some (.read readGatedCounth) := by
  unfold accessorEntry tableRows
  rw [if_pos h, hx]
  exact rfl

include h in
theorem entry_cycleh (hx : c.xlen = .rv32) : accessorEntry c 0xC80 = some (.read readGatedCounth) := by
  unfold accessorEntry tableRows
  rw [if_pos h, hx]
  exact rfl

include h in
theorem entry_instreth (hx : c.xlen = .rv32) : accessorEntry c 0xC82 = some (.read readGatedCounth) := by
  unfold accessorEntry tableRows
  rw [if_pos h, hx]
  exact rfl

include h in
theorem entry_mvendorid : accessorEntry c 0xF11 = some (.read readZero) := by
  unfold accessorEntry tableRows
  rw [if_pos h]
  exact rfl

include h in
theorem entry_marchid : accessorEntry c 0xF12 = some (.read readZero) := by
  unfold accessorEntry tableRows
  rw [if_pos h]
  exact rfl

include h in
theorem entry_mimpid : accessorEntry c 0xF13 = some (.read readZero) := by
  unfold accessorEntry tableRows
  rw [if_pos h]
  exact rfl

include h in
theorem entry_mhartid : accessorEntry c 0xF14 = some (.read readMhartid) := by
  unfold accessorEntry tableRows
  rw [if_pos h]
  exact rfl

include h in
theorem entry_mhpmevent (n : BitVec 12) (ha : 0x323 ≤ n.toNat) (hb : n.toNat ≤ 0x33F) :
    accessorEntry c n = some (.read readZero) := by
  unfold accessorEntry tableRows
  rw [if_pos h]
  simp (disch := omega) [lowerRows, machineRows, counterRows, oneRow, spanRow, rv32Row, TableRow.binds, List.find?_cons,
    decide_eq_false, decide_eq_true, ha, hb]

include h in
theorem entry_mhpmcounter (n : BitVec 12) (ha : 0xB03 ≤ n.toNat) (hb : n.toNat ≤ 0xB1F) :
    accessorEntry c n = some (.read readZero) := by
  unfold accessorEntry tableRows
  rw [if_pos h]
  simp (disch := omega) [lowerRows, machineRows, counterRows, oneRow, spanRow, rv32Row, TableRow.binds, List.find?_cons,
    decide_eq_false, decide_eq_true, ha, hb]

include h in
theorem entry_mhpmcounterh (hx : c.xlen = .rv32) (n : BitVec 12) (ha : 0xB83 ≤ n.toNat) (hb : n.toNat ≤ 0xB9F) :
    accessorEntry c n = some (.read readZero) := by
  unfold accessorEntry tableRows
  rw [if_pos h, hx]
  simp (disch := omega) [lowerRows, machineRows, counterRows, oneRow, spanRow, rv32Row, TableRow.binds, List.find?_cons,
    decide_eq_false, decide_eq_true, ha, hb]

include h in
theorem entry_hpmcounter (n : BitVec 12) (ha : 0xC03 ≤ n.toNat) (hb : n.toNat ≤ 0xC1F) :
    accessorEntry c n = some (.read readGatedZero) := by
  unfold accessorEntry tableRows
  rw [if_pos h]
  simp (disch := omega) [lowerRows, machineRows, counterRows, oneRow, spanRow, rv32Row, TableRow.binds, List.find?_cons,
    decide_eq_false, decide_eq_true, ha, hb]

include h in
theorem entry_hpmcounterh (hx : c.xlen = .rv32) (n : BitVec 12) (ha : 0xC83 ≤ n.toNat) (hb : n.toNat ≤ 0xC9F) :
    accessorEntry c n = some (.read readGatedZero) := by
  unfold accessorEntry tableRows
  rw [if_pos h, hx]
  simp (disch := omega) [lowerRows, machineRows, counterRows, oneRow, spanRow, rv32Row, TableRow.binds, List.find?_cons,
    decide_eq_false, decide_eq_true, ha, hb]

include h in
theorem entry_pmpcfg (hc : c.pmpCfgCount = 4) (hd : c.pmpAddrCount = 16) (n : BitVec 12) (ha : 0x3A0 ≤ n.toNat)
    (hb : n.toNat ≤ 0x3A3) : accessorEntry c n = some (.readWrite readPmpCfg writePmpCfg) := by
  unfold accessorEntry tableRows
  rw [if_pos h]
  simp (disch := omega) [lowerRows, machineRows, counterRows, pmpRows, pmpCfgBase, pmpAddrBase, hc, hd, oneRow, spanRow,
    rv32Row, TableRow.binds, List.find?_cons, decide_eq_false, decide_eq_true, ha, hb]

include h in
theorem entry_pmpaddr (hc : c.pmpCfgCount = 4) (hd : c.pmpAddrCount = 16) (n : BitVec 12) (ha : 0x3B0 ≤ n.toNat)
    (hb : n.toNat ≤ 0x3BF) : accessorEntry c n = some (.readWrite readPmpAddr writePmpAddr) := by
  unfold accessorEntry tableRows
  rw [if_pos h]
  simp (disch := omega) [lowerRows, machineRows, counterRows, pmpRows, pmpCfgBase, pmpAddrBase, hc, hd, oneRow, spanRow,
    rv32Row, TableRow.binds, List.find?_cons, decide_eq_false, decide_eq_true, ha, hb]

end Full

section User

variable (c : Config) (h : c.system = false)

include h in
theorem userEntry_fflags : accessorEntry c 0x001 = some (.readWrite readFflags writeFflags) := by
  unfold accessorEntry tableRows
  rw [h]
  exact rfl

include h in
theorem userEntry_frm : accessorEntry c 0x002 = some (.readWrite readFrm writeFrm) := by
  unfold accessorEntry tableRows
  rw [h]
  exact rfl

include h in
theorem userEntry_fcsr : accessorEntry c 0x003 = some (.readWrite readFcsr writeFcsr) := by
  unfold accessorEntry tableRows
  rw [h]
  exact rfl

include h in
theorem userEntry_cycle : accessorEntry c 0xC00 = some (.read readUserCount) := by
  unfold accessorEntry tableRows
  rw [h]
  exact rfl

include h in
theorem userEntry_time : accessorEntry c 0xC01 = some (.read readUserCount) := by
  unfold accessorEntry tableRows
  rw [h]
  exact rfl

include h in
theorem userEntry_instret : accessorEntry c 0xC02 = some (.read readUserCount) := by
  unfold accessorEntry tableRows
  rw [h]
  exact rfl

include h in
theorem userEntry_cycleh (hx : c.xlen = .rv32) : accessorEntry c 0xC80 = some (.read readUserCounth) := by
  unfold accessorEntry tableRows
  rw [h, hx]
  exact rfl

include h in
theorem userEntry_timeh (hx : c.xlen = .rv32) : accessorEntry c 0xC81 = some (.read readUserCounth) := by
  unfold accessorEntry tableRows
  rw [h, hx]
  exact rfl

include h in
theorem userEntry_instreth (hx : c.xlen = .rv32) : accessorEntry c 0xC82 = some (.read readUserCounth) := by
  unfold accessorEntry tableRows
  rw [h, hx]
  exact rfl

end User

end Sys2Proof.Machine
end

