-- ==== Sys2Proof/Laws/Access.lean ====
section
/-! SUPPORT. What the dispatch engine does, once for each way through R131. -/

namespace Sys2Proof.Machine

variable (n : BitVec 12) (nv wm : Word) (s : State)

/-- Gating passes exactly when no part of R122 denies. -/
theorem gateDenies_eq_false_iff : gateDenies n wm s = false ↔
    (s.cfg.system = true → (wm = 0 ∨ isReadOnly n = false) ∧ requiredPrivilege n ≤ s.bank.priv.code) := by
  unfold gateDenies
  cases s.cfg.system <;> cases isReadOnly n <;> simp [BitVec.not_lt]

/-- Gating depends on the number, the mask and the level only (R122). -/
theorem gateDenies_clearOutput : gateDenies n wm s.clearOutput = gateDenies n wm s := by rfl

/-- R122, first failure in the order of R134. -/
theorem accessCore_gated (h : gateDenies n wm s = true) : accessCore n nv wm s = .error .accessDenied := by
  simp [accessCore, h]

/-- R126. -/
theorem accessCore_unbound (hg : gateDenies n wm s = false) (he : accessorEntry s.cfg n = none) :
    accessCore n nv wm s = .error .unsupportedRegister := by
  simp [accessCore, hg, he]

/-- R125 to R130: past gating, the number's entry decides. -/
theorem accessCore_entry (e : Entry) (hg : gateDenies n wm s = false) (he : accessorEntry s.cfg n = some e) :
    accessCore n nv wm s = e.run n nv wm s := by
  simp [accessCore, hg, he]

/-- A successful operation is a success of the access (R130). -/
theorem accessRegister_ok (p : Word) (t : State)
    (h : accessCore n (s.cfg.xlen.trunc nv) (s.cfg.xlen.trunc wm) s.clearOutput = .ok (p, t)) :
    accessRegister n nv wm s = { t with result := some (.success p) } := by
  simp [accessRegister, h]

/-- A failed operation is a failure of the access, and nothing else changes (R137). -/
theorem accessRegister_error (k : CsrError)
    (h : accessCore n (s.cfg.xlen.trunc nv) (s.cfg.xlen.trunc wm) s.clearOutput = .error k) :
    accessRegister n nv wm s = { s.clearOutput with result := some (.failure k) } := by
  simp [accessRegister, h]

/-- An access has a result, one of the two (R121). -/
theorem accessRegister_cases :
    (∃ p t, accessCore n (s.cfg.xlen.trunc nv) (s.cfg.xlen.trunc wm) s.clearOutput = .ok (p, t) ∧
      accessRegister n nv wm s = { t with result := some (.success p) }) ∨
    (∃ k, accessCore n (s.cfg.xlen.trunc nv) (s.cfg.xlen.trunc wm) s.clearOutput = .error k ∧
      accessRegister n nv wm s = { s.clearOutput with result := some (.failure k) }) := by
  cases h : accessCore n (s.cfg.xlen.trunc nv) (s.cfg.xlen.trunc wm) s.clearOutput with
  | ok r => exact .inl ⟨r.1, r.2, rfl, accessRegister_ok n nv wm s r.1 r.2 h⟩
  | error k => exact .inr ⟨k, rfl, accessRegister_error n nv wm s k h⟩

@[simp] theorem run_read (r : BitVec 12 → State → Except CsrError (Word × State)) :
    (Entry.read r).run n nv wm s = r n s := by rfl

@[simp] theorem run_readWrite (r : BitVec 12 → State → Except CsrError (Word × State))
    (w : BitVec 12 → Word → State → Except CsrError State) :
    (Entry.readWrite r w).run n nv wm s = plainAccess r w n nv wm s := by rfl

@[simp] theorem run_combined (op : BitVec 12 → Word → Word → State → Except CsrError (Word × State)) :
    (Entry.combinedRmw op).run n nv wm s = op n nv wm s := by rfl

/-- R127: a failed read fails the access. -/
theorem plainAccess_readFails (r : BitVec 12 → State → Except CsrError (Word × State))
    (w : BitVec 12 → Word → State → Except CsrError State) (k : CsrError) (h : r n s = .error k) :
    plainAccess r w n nv wm s = .error k := by
  simp [plainAccess, h]

/-- R128: an empty write mask makes a pure read. -/
theorem plainAccess_pureRead (r : BitVec 12 → State → Except CsrError (Word × State))
    (w : BitVec 12 → Word → State → Except CsrError State) (p : Word) (t : State) (h : r n s = .ok (p, t)) :
    plainAccess r w n nv 0 s = .ok (p, t) := by
  simp [plainAccess, h]

/-- R128, R129: the merged value is written. -/
theorem plainAccess_write (r : BitVec 12 → State → Except CsrError (Word × State))
    (w : BitVec 12 → Word → State → Except CsrError State) (p : Word) (t u : State) (hr : r n s = .ok (p, t))
    (hm : wm ≠ 0) (hw : w n (merge p nv wm) t = .ok u) : plainAccess r w n nv wm s = .ok (p, u) := by
  simp only [plainAccess, hr, if_neg hm, hw]

/-- An empty mask keeps the prior value. -/
@[simp] theorem merge_zero (p : Word) : merge p nv 0 = p := by
  show (p &&& ~~~(0#64)) ||| (nv &&& 0#64) = p
  rw [BitVec.not_zero, BitVec.and_allOnes, BitVec.and_zero, BitVec.or_zero]

/-- A full mask replaces the prior value. -/
theorem merge_allOnes (p : Word) : merge p nv Xlen.rv64.ones = nv := by
  show (p &&& ~~~(BitVec.allOnes 64)) ||| (nv &&& BitVec.allOnes 64) = nv
  rw [BitVec.not_allOnes, BitVec.and_allOnes, BitVec.and_zero, BitVec.zero_or]

/-- R96: a successful access retires to the next instruction. -/
theorem retire_success (rd : BitVec 5) (p : Word) (h : s.result = some (.success p)) :
    retire rd s = (s.writeX rd p).advancePc := by
  simp [retire, h]

/-- R300: a failed access traps. -/
theorem retire_failure (rd : BitVec 5) (k : CsrError) (h : s.result = some (.failure k)) :
    retire rd s = illegalInstruction s := by
  simp [retire, h]

end Sys2Proof.Machine
end

