-- ==== Sys2Proof/Laws/Encoding.lean ====
section
/-! SUPPORT. The fields of an encoded CSR instruction. -/

namespace Sys2Proof

variable (csr : BitVec 12) (rs1 rd : BitVec 5) (f : BitVec 3)

/-- The bits of the word of a CSR instruction, field by field (R95). -/
theorem getLsbD_encodeInsn (i : Nat) : (encodeInsn csr rs1 f rd).getLsbD i =
    if i < 7 then systemOpcode.getLsbD i else if i < 12 then rd.getLsbD (i - 7) else if i < 15 then f.getLsbD (i - 12)
    else if i < 20 then rs1.getLsbD (i - 15) else csr.getLsbD (i - 20) := by
  have h : (encodeInsn csr rs1 f rd).getLsbD i = (csr ++ rs1 ++ f ++ rd ++ systemOpcode).getLsbD i := rfl
  rw [h]
  simp only [BitVec.getLsbD_append]
  split
  · rfl
  · repeat' split
    all_goals first | omega | congr 1

@[simp] theorem opcodeField_encodeInsn : opcodeField (encodeInsn csr rs1 f rd) = systemOpcode := by
  unfold opcodeField
  ext i hi
  rw [BitVec.getElem_extractLsb', getLsbD_encodeInsn, if_pos (show 0 + i < 7 by omega), Nat.zero_add]
  exact BitVec.getLsbD_eq_getElem hi

@[simp] theorem rdField_encodeInsn : rdField (encodeInsn csr rs1 f rd) = rd := by
  unfold rdField
  ext i hi
  rw [BitVec.getElem_extractLsb', getLsbD_encodeInsn, if_neg (show ¬7 + i < 7 by omega), if_pos (show 7 + i < 12 by omega), Nat.add_sub_cancel_left]
  exact BitVec.getLsbD_eq_getElem hi

@[simp] theorem funct3Field_encodeInsn : funct3Field (encodeInsn csr rs1 f rd) = f := by
  unfold funct3Field
  ext i hi
  rw [BitVec.getElem_extractLsb', getLsbD_encodeInsn, if_neg (show ¬12 + i < 7 by omega), if_neg (show ¬12 + i < 12 by omega), if_pos (show 12 + i < 15 by omega), Nat.add_sub_cancel_left]
  exact BitVec.getLsbD_eq_getElem hi

@[simp] theorem rs1Field_encodeInsn : rs1Field (encodeInsn csr rs1 f rd) = rs1 := by
  unfold rs1Field
  ext i hi
  rw [BitVec.getElem_extractLsb', getLsbD_encodeInsn, if_neg (show ¬15 + i < 7 by omega), if_neg (show ¬15 + i < 12 by omega), if_neg (show ¬15 + i < 15 by omega), if_pos (show 15 + i < 20 by omega), Nat.add_sub_cancel_left]
  exact BitVec.getLsbD_eq_getElem hi

@[simp] theorem csrField_encodeInsn : csrField (encodeInsn csr rs1 f rd) = csr := by
  unfold csrField
  ext i hi
  rw [BitVec.getElem_extractLsb', getLsbD_encodeInsn, if_neg (show ¬20 + i < 7 by omega), if_neg (show ¬20 + i < 12 by omega), if_neg (show ¬20 + i < 15 by omega), if_neg (show ¬20 + i < 20 by omega), Nat.add_sub_cancel_left]
  exact BitVec.getLsbD_eq_getElem hi

end Sys2Proof
end

