-- ==== Sys2Proof/Laws/Ops.lean ====
section
/-! SUPPORT. What each shared operation does, said once. -/

namespace Sys2Proof.Machine

variable (s : State)

/-! ### Widths -/

theorem trunc_rv64 (v : Word) : Xlen.rv64.trunc v = v := by
  show v &&& BitVec.allOnes 64 = v
  exact BitVec.and_allOnes

@[simp] theorem trunc_trunc (x : Xlen) (v : Word) : x.trunc (x.trunc v) = x.trunc v := by
  simp [Xlen.trunc, BitVec.and_assoc]

/-- A value fits exactly when truncation leaves it as it is. -/
theorem fits_iff (x : Xlen) (v : Word) : v.fits x = true ↔ x.trunc v = v := by
  unfold Word.fits Xlen.trunc
  rw [beq_iff_eq]
  constructor
  · intro h
    ext i hi
    have := congrArg (fun w => w.getLsbD i) h
    simp only [BitVec.getLsbD_and, BitVec.getLsbD_not] at this
    simp only [← BitVec.getLsbD_eq_getElem]
    cases hv : v.getLsbD i <;> cases ho : x.ones.getLsbD i <;> simp_all
  · intro h
    ext i hi
    have := congrArg (fun w => w.getLsbD i) h
    simp only [BitVec.getLsbD_and] at this
    simp only [← BitVec.getLsbD_eq_getElem]
    cases hv : v.getLsbD i <;> cases ho : x.ones.getLsbD i <;> simp_all

@[simp] theorem trunc_fits (x : Xlen) (v : Word) : (x.trunc v).fits x = true := by
  rw [fits_iff, trunc_trunc]

/-! ### The configuration -/

/-- This hardware is the build with privilege levels, with the values R6 records (R5, R6). -/
theorem isThisHardware_iff (c : Config) :
    c.isThisHardware = true ↔ c.system = true ∧ c.hasRecordedValues = true := by
  simp [Config.isThisHardware]

/-! ### Bits under a mask -/

/-- A masked write keeps the bits outside its mask (R174). -/
theorem maskedWrite_outside (old merged mask : Word) : maskedWrite old merged mask &&& ~~~mask = old &&& ~~~mask := by
  unfold maskedWrite
  ext i hi
  simp
  cases mask[i] <;> simp

/-- A masked write takes the bits inside its mask (R174). -/
theorem maskedWrite_inside (old merged mask : Word) : maskedWrite old merged mask &&& mask = merged &&& mask := by
  unfold maskedWrite
  ext i hi
  simp
  cases mask[i] <;> simp

/-! ### Ports -/

@[simp] theorem invalidate_events : (invalidate s).events = s.events ++ [.invalidate] := by rfl
@[simp] theorem invalidate_bank : (invalidate s).bank = s.bank := by rfl
@[simp] theorem invalidate_cfg : (invalidate s).cfg = s.cfg := by rfl

/-- The count never falls (D26). -/
theorem count_le_nextCount : s.count ≤ nextCount s := by
  unfold nextCount
  split
  · exact BitVec.le_refl _
  · rename_i h
    exact BitVec.not_lt.mp h

@[simp] theorem currentCount_count : (currentCount s).2.count = nextCount s := by rfl
@[simp] theorem currentCount_bank : (currentCount s).2.bank = s.bank := by rfl
@[simp] theorem currentCount_events : (currentCount s).2.events = s.events ++ [.currentCount] := by rfl

/-- What a locked update leaves in `mip`, on a free lock (R179). -/
theorem updateMip_mip (m v : BitVec 32) : (updateMip m v s).bank.mip = (s.bank.mip &&& ~~~m) ||| (v &&& m) := by rfl

/-- The lock is free unless the controller holds it: then its update comes first (R139). -/
theorem lockIrq_free (h : s.irqLock = .free) : lockIrq s = { s.emit .lock with irqLock := .heldByHart } := by
  simp [lockIrq, controllerFinish, h]

theorem lockIrq_controller (m v : BitVec 32) (h : s.irqLock = .heldByController m v) :
    lockIrq s = { (updateMip m v s).emit .lock with irqLock := .heldByHart } := by
  simp [lockIrq, controllerFinish, h, State.emit]

/-! ### The status word's write path (R165) -/

@[simp] theorem writeMstatus_cfg (v : Word) : (writeMstatus v s).cfg = s.cfg := by
  unfold writeMstatus; dsimp only; split <;> rfl

/-- The one bank field the path writes. -/
theorem writeMstatus_bank (v : Word) :
    (writeMstatus v s).bank = { s.bank with mstatus := mstatusWritten s.cfg s.bank.mstatus v } := by
  unfold writeMstatus; dsimp only; split <;> rfl

/-- The path invalidates once, or not at all (R170). -/
theorem writeMstatus_events (v : Word) : (writeMstatus v s).events =
    if mstatusFlushes s.cfg s.bank.mstatus (mstatusWritten s.cfg s.bank.mstatus v) then s.events ++ [.invalidate]
    else s.events := by
  unfold writeMstatus; dsimp only; split <;> rfl

/-- The path in one equation. -/
theorem writeMstatus_eq (v : Word) : writeMstatus v s =
    { s with
      bank := { s.bank with mstatus := mstatusWritten s.cfg s.bank.mstatus v }
      events := if mstatusFlushes s.cfg s.bank.mstatus (mstatusWritten s.cfg s.bank.mstatus v)
        then s.events ++ [.invalidate] else s.events } := by
  unfold writeMstatus; dsimp only; split <;> rfl

/-! ### Traps (R309) -/

/-- A trap to M (R309). -/
theorem takeTrap_machine (c : TrapCause) (tval : Word) (h : trapsToS s.bank c = false) : takeTrap c tval s =
    { s with
      bank := { s.bank with
        mepc := s.pc
        mcause := c.word s.cfg.xlen
        mbadaddr := s.cfg.xlen.trunc tval
        mstatus := mstatusTrapM s.bank.mstatus s.bank.priv
        priv := .m }
      pc := s.bank.mtvec } := by
  simp [takeTrap, h]

/-- A trap to S (R309). -/
theorem takeTrap_supervisor (c : TrapCause) (tval : Word) (h : trapsToS s.bank c = true) : takeTrap c tval s =
    { s with
      bank := { s.bank with
        sepc := s.pc
        scause := c.word s.cfg.xlen
        sbadaddr := s.cfg.xlen.trunc tval
        mstatus := mstatusTrapS s.bank.mstatus s.bank.priv
        priv := .s }
      pc := s.bank.stvec } := by
  simp [takeTrap, h]

/-- A trap touches the bank and the program counter only. -/
theorem takeTrap_frame (c : TrapCause) (tval : Word) :
    takeTrap c tval s = { s with bank := (takeTrap c tval s).bank, pc := (takeTrap c tval s).pc } := by
  unfold takeTrap
  split <;> rfl

end Sys2Proof.Machine
end

