-- ==== Sys2Proof/Laws/PerInstr.lean ====
section
/-! SUPPORT. Decoding what an instruction is presented as gives the instruction back, one lemma per instruction. -/

namespace Sys2Proof.Laws.DecodeEncode

/-- On a build whose table the instruction's row belongs to, decoding its encoding gives it back. -/
def Statement (i : Instr) : Prop := ∀ system : Bool, i.inBuild system = true → decode system (encode i) = .ok i

theorem csrrw (csr : BitVec 12) (rs1 rd : BitVec 5) : Statement (.csrrw csr rs1 rd) := by
  intro system _
  simp [decode, encode, decodeInsn]

theorem csrrs (csr : BitVec 12) (rs1 rd : BitVec 5) : Statement (.csrrs csr rs1 rd) := by
  intro system _
  simp [decode, encode, decodeInsn]

theorem csrrc (csr : BitVec 12) (rs1 rd : BitVec 5) : Statement (.csrrc csr rs1 rd) := by
  intro system _
  simp [decode, encode, decodeInsn]

theorem csrrwi (csr : BitVec 12) (uimm rd : BitVec 5) : Statement (.csrrwi csr uimm rd) := by
  intro system _
  simp [decode, encode, decodeInsn]

theorem csrrsi (csr : BitVec 12) (uimm rd : BitVec 5) : Statement (.csrrsi csr uimm rd) := by
  intro system _
  simp [decode, encode, decodeInsn]

theorem csrrci (csr : BitVec 12) (uimm rd : BitVec 5) : Statement (.csrrci csr uimm rd) := by
  intro system _
  simp [decode, encode, decodeInsn]

theorem csrFflags (nv wm : Word) : Statement (.csrFflags nv wm) := by
  intro system h
  cases system
  · exact Bool.noConfusion h
  · exact rfl

theorem csrFrm (nv wm : Word) : Statement (.csrFrm nv wm) := by
  intro system h
  cases system
  · exact Bool.noConfusion h
  · exact rfl

theorem csrFcsr (nv wm : Word) : Statement (.csrFcsr nv wm) := by
  intro system h
  cases system
  · exact Bool.noConfusion h
  · exact rfl

theorem csrSstatus (nv wm : Word) : Statement (.csrSstatus nv wm) := by
  intro system _
  cases system <;> exact rfl

theorem csrSie (nv wm : Word) : Statement (.csrSie nv wm) := by
  intro system _
  cases system <;> exact rfl

theorem csrStvec (nv wm : Word) : Statement (.csrStvec nv wm) := by
  intro system _
  cases system <;> exact rfl

theorem csrScounteren (nv wm : Word) : Statement (.csrScounteren nv wm) := by
  intro system _
  cases system <;> exact rfl

theorem csrSscratch (nv wm : Word) : Statement (.csrSscratch nv wm) := by
  intro system _
  cases system <;> exact rfl

theorem csrSepc (nv wm : Word) : Statement (.csrSepc nv wm) := by
  intro system _
  cases system <;> exact rfl

theorem csrScause (nv wm : Word) : Statement (.csrScause nv wm) := by
  intro system _
  cases system <;> exact rfl

theorem csrSbadaddr (nv wm : Word) : Statement (.csrSbadaddr nv wm) := by
  intro system _
  cases system <;> exact rfl

theorem csrSip (nv wm : Word) : Statement (.csrSip nv wm) := by
  intro system _
  cases system <;> exact rfl

theorem csrSatp (nv wm : Word) : Statement (.csrSatp nv wm) := by
  intro system _
  cases system <;> exact rfl

theorem csrMstatus (nv wm : Word) : Statement (.csrMstatus nv wm) := by
  intro system _
  cases system <;> exact rfl

theorem csrMisa (nv wm : Word) : Statement (.csrMisa nv wm) := by
  intro system _
  cases system <;> exact rfl

theorem csrMedeleg (nv wm : Word) : Statement (.csrMedeleg nv wm) := by
  intro system _
  cases system <;> exact rfl

theorem csrMideleg (nv wm : Word) : Statement (.csrMideleg nv wm) := by
  intro system _
  cases system <;> exact rfl

theorem csrMie (nv wm : Word) : Statement (.csrMie nv wm) := by
  intro system _
  cases system <;> exact rfl

theorem csrMtvec (nv wm : Word) : Statement (.csrMtvec nv wm) := by
  intro system _
  cases system <;> exact rfl

theorem csrMcounteren (nv wm : Word) : Statement (.csrMcounteren nv wm) := by
  intro system _
  cases system <;> exact rfl

theorem csrMucounteren (nv wm : Word) : Statement (.csrMucounteren nv wm) := by
  intro system _
  cases system <;> exact rfl

theorem csrMscounteren (nv wm : Word) : Statement (.csrMscounteren nv wm) := by
  intro system _
  cases system <;> exact rfl

theorem csrMhpmevent3 (nv wm : Word) : Statement (.csrMhpmevent3 nv wm) := by
  intro system _
  cases system <;> exact rfl

theorem csrMhpmevent4 (nv wm : Word) : Statement (.csrMhpmevent4 nv wm) := by
  intro system _
  cases system <;> exact rfl

theorem csrMhpmevent5 (nv wm : Word) : Statement (.csrMhpmevent5 nv wm) := by
  intro system _
  cases system <;> exact rfl

theorem csrMhpmevent6 (nv wm : Word) : Statement (.csrMhpmevent6 nv wm) := by
  intro system _
  cases system <;> exact rfl

theorem csrMhpmevent7 (nv wm : Word) : Statement (.csrMhpmevent7 nv wm) := by
  intro system _
  cases system <;> exact rfl

theorem csrMhpmevent8 (nv wm : Word) : Statement (.csrMhpmevent8 nv wm) := by
  intro system _
  cases system <;> exact rfl

theorem csrMhpmevent9 (nv wm : Word) : Statement (.csrMhpmevent9 nv wm) := by
  intro system _
  cases system <;> exact rfl

theorem csrMhpmevent10 (nv wm : Word) : Statement (.csrMhpmevent10 nv wm) := by
  intro system _
  cases system <;> exact rfl

theorem csrMhpmevent11 (nv wm : Word) : Statement (.csrMhpmevent11 nv wm) := by
  intro system _
  cases system <;> exact rfl

theorem csrMhpmevent12 (nv wm : Word) : Statement (.csrMhpmevent12 nv wm) := by
  intro system _
  cases system <;> exact rfl

theorem csrMhpmevent13 (nv wm : Word) : Statement (.csrMhpmevent13 nv wm) := by
  intro system _
  cases system <;> exact rfl

theorem csrMhpmevent14 (nv wm : Word) : Statement (.csrMhpmevent14 nv wm) := by
  intro system _
  cases system <;> exact rfl

theorem csrMhpmevent15 (nv wm : Word) : Statement (.csrMhpmevent15 nv wm) := by
  intro system _
  cases system <;> exact rfl

theorem csrMhpmevent16 (nv wm : Word) : Statement (.csrMhpmevent16 nv wm) := by
  intro system _
  cases system <;> exact rfl

theorem csrMhpmevent17 (nv wm : Word) : Statement (.csrMhpmevent17 nv wm) := by
  intro system _
  cases system <;> exact rfl

theorem csrMhpmevent18 (nv wm : Word) : Statement (.csrMhpmevent18 nv wm) := by
  intro system _
  cases system <;> exact rfl

theorem csrMhpmevent19 (nv wm : Word) : Statement (.csrMhpmevent19 nv wm) := by
  intro system _
  cases system <;> exact rfl

theorem csrMhpmevent20 (nv wm : Word) : Statement (.csrMhpmevent20 nv wm) := by
  intro system _
  cases system <;> exact rfl

theorem csrMhpmevent21 (nv wm : Word) : Statement (.csrMhpmevent21 nv wm) := by
  intro system _
  cases system <;> exact rfl

theorem csrMhpmevent22 (nv wm : Word) : Statement (.csrMhpmevent22 nv wm) := by
  intro system _
  cases system <;> exact rfl

theorem csrMhpmevent23 (nv wm : Word) : Statement (.csrMhpmevent23 nv wm) := by
  intro system _
  cases system <;> exact rfl

theorem csrMhpmevent24 (nv wm : Word) : Statement (.csrMhpmevent24 nv wm) := by
  intro system _
  cases system <;> exact rfl

theorem csrMhpmevent25 (nv wm : Word) : Statement (.csrMhpmevent25 nv wm) := by
  intro system _
  cases system <;> exact rfl

theorem csrMhpmevent26 (nv wm : Word) : Statement (.csrMhpmevent26 nv wm) := by
  intro system _
  cases system <;> exact rfl

theorem csrMhpmevent27 (nv wm : Word) : Statement (.csrMhpmevent27 nv wm) := by
  intro system _
  cases system <;> exact rfl

theorem csrMhpmevent28 (nv wm : Word) : Statement (.csrMhpmevent28 nv wm) := by
  intro system _
  cases system <;> exact rfl

theorem csrMhpmevent29 (nv wm : Word) : Statement (.csrMhpmevent29 nv wm) := by
  intro system _
  cases system <;> exact rfl

theorem csrMhpmevent30 (nv wm : Word) : Statement (.csrMhpmevent30 nv wm) := by
  intro system _
  cases system <;> exact rfl

theorem csrMhpmevent31 (nv wm : Word) : Statement (.csrMhpmevent31 nv wm) := by
  intro system _
  cases system <;> exact rfl

theorem csrMscratch (nv wm : Word) : Statement (.csrMscratch nv wm) := by
  intro system _
  cases system <;> exact rfl

theorem csrMepc (nv wm : Word) : Statement (.csrMepc nv wm) := by
  intro system _
  cases system <;> exact rfl

theorem csrMcause (nv wm : Word) : Statement (.csrMcause nv wm) := by
  intro system _
  cases system <;> exact rfl

theorem csrMbadaddr (nv wm : Word) : Statement (.csrMbadaddr nv wm) := by
  intro system _
  cases system <;> exact rfl

theorem csrMip (nv wm : Word) : Statement (.csrMip nv wm) := by
  intro system _
  cases system <;> exact rfl

theorem csrPmpcfg0 (nv wm : Word) : Statement (.csrPmpcfg0 nv wm) := by
  intro system _
  cases system <;> exact rfl

theorem csrPmpcfg1 (nv wm : Word) : Statement (.csrPmpcfg1 nv wm) := by
  intro system _
  cases system <;> exact rfl

theorem csrPmpcfg2 (nv wm : Word) : Statement (.csrPmpcfg2 nv wm) := by
  intro system _
  cases system <;> exact rfl

theorem csrPmpcfg3 (nv wm : Word) : Statement (.csrPmpcfg3 nv wm) := by
  intro system _
  cases system <;> exact rfl

theorem csrPmpaddr0 (nv wm : Word) : Statement (.csrPmpaddr0 nv wm) := by
  intro system _
  cases system <;> exact rfl

theorem csrPmpaddr1 (nv wm : Word) : Statement (.csrPmpaddr1 nv wm) := by
  intro system _
  cases system <;> exact rfl

theorem csrPmpaddr2 (nv wm : Word) : Statement (.csrPmpaddr2 nv wm) := by
  intro system _
  cases system <;> exact rfl

theorem csrPmpaddr3 (nv wm : Word) : Statement (.csrPmpaddr3 nv wm) := by
  intro system _
  cases system <;> exact rfl

theorem csrPmpaddr4 (nv wm : Word) : Statement (.csrPmpaddr4 nv wm) := by
  intro system _
  cases system <;> exact rfl

theorem csrPmpaddr5 (nv wm : Word) : Statement (.csrPmpaddr5 nv wm) := by
  intro system _
  cases system <;> exact rfl

theorem csrPmpaddr6 (nv wm : Word) : Statement (.csrPmpaddr6 nv wm) := by
  intro system _
  cases system <;> exact rfl

theorem csrPmpaddr7 (nv wm : Word) : Statement (.csrPmpaddr7 nv wm) := by
  intro system _
  cases system <;> exact rfl

theorem csrPmpaddr8 (nv wm : Word) : Statement (.csrPmpaddr8 nv wm) := by
  intro system _
  cases system <;> exact rfl

theorem csrPmpaddr9 (nv wm : Word) : Statement (.csrPmpaddr9 nv wm) := by
  intro system _
  cases system <;> exact rfl

theorem csrPmpaddr10 (nv wm : Word) : Statement (.csrPmpaddr10 nv wm) := by
  intro system _
  cases system <;> exact rfl

theorem csrPmpaddr11 (nv wm : Word) : Statement (.csrPmpaddr11 nv wm) := by
  intro system _
  cases system <;> exact rfl

theorem csrPmpaddr12 (nv wm : Word) : Statement (.csrPmpaddr12 nv wm) := by
  intro system _
  cases system <;> exact rfl

theorem csrPmpaddr13 (nv wm : Word) : Statement (.csrPmpaddr13 nv wm) := by
  intro system _
  cases system <;> exact rfl

theorem csrPmpaddr14 (nv wm : Word) : Statement (.csrPmpaddr14 nv wm) := by
  intro system _
  cases system <;> exact rfl

theorem csrPmpaddr15 (nv wm : Word) : Statement (.csrPmpaddr15 nv wm) := by
  intro system _
  cases system <;> exact rfl

theorem csrMcycle (nv wm : Word) : Statement (.csrMcycle nv wm) := by
  intro system _
  cases system <;> exact rfl

theorem csrMinstret (nv wm : Word) : Statement (.csrMinstret nv wm) := by
  intro system _
  cases system <;> exact rfl

theorem csrMhpmcounter3 (nv wm : Word) : Statement (.csrMhpmcounter3 nv wm) := by
  intro system _
  cases system <;> exact rfl

theorem csrMhpmcounter4 (nv wm : Word) : Statement (.csrMhpmcounter4 nv wm) := by
  intro system _
  cases system <;> exact rfl

theorem csrMhpmcounter5 (nv wm : Word) : Statement (.csrMhpmcounter5 nv wm) := by
  intro system _
  cases system <;> exact rfl

theorem csrMhpmcounter6 (nv wm : Word) : Statement (.csrMhpmcounter6 nv wm) := by
  intro system _
  cases system <;> exact rfl

theorem csrMhpmcounter7 (nv wm : Word) : Statement (.csrMhpmcounter7 nv wm) := by
  intro system _
  cases system <;> exact rfl

theorem csrMhpmcounter8 (nv wm : Word) : Statement (.csrMhpmcounter8 nv wm) := by
  intro system _
  cases system <;> exact rfl

theorem csrMhpmcounter9 (nv wm : Word) : Statement (.csrMhpmcounter9 nv wm) := by
  intro system _
  cases system <;> exact rfl

theorem csrMhpmcounter10 (nv wm : Word) : Statement (.csrMhpmcounter10 nv wm) := by
  intro system _
  cases system <;> exact rfl

theorem csrMhpmcounter11 (nv wm : Word) : Statement (.csrMhpmcounter11 nv wm) := by
  intro system _
  cases system <;> exact rfl

theorem csrMhpmcounter12 (nv wm : Word) : Statement (.csrMhpmcounter12 nv wm) := by
  intro system _
  cases system <;> exact rfl

theorem csrMhpmcounter13 (nv wm : Word) : Statement (.csrMhpmcounter13 nv wm) := by
  intro system _
  cases system <;> exact rfl

theorem csrMhpmcounter14 (nv wm : Word) : Statement (.csrMhpmcounter14 nv wm) := by
  intro system _
  cases system <;> exact rfl

theorem csrMhpmcounter15 (nv wm : Word) : Statement (.csrMhpmcounter15 nv wm) := by
  intro system _
  cases system <;> exact rfl

theorem csrMhpmcounter16 (nv wm : Word) : Statement (.csrMhpmcounter16 nv wm) := by
  intro system _
  cases system <;> exact rfl

theorem csrMhpmcounter17 (nv wm : Word) : Statement (.csrMhpmcounter17 nv wm) := by
  intro system _
  cases system <;> exact rfl

theorem csrMhpmcounter18 (nv wm : Word) : Statement (.csrMhpmcounter18 nv wm) := by
  intro system _
  cases system <;> exact rfl

theorem csrMhpmcounter19 (nv wm : Word) : Statement (.csrMhpmcounter19 nv wm) := by
  intro system _
  cases system <;> exact rfl

theorem csrMhpmcounter20 (nv wm : Word) : Statement (.csrMhpmcounter20 nv wm) := by
  intro system _
  cases system <;> exact rfl

theorem csrMhpmcounter21 (nv wm : Word) : Statement (.csrMhpmcounter21 nv wm) := by
  intro system _
  cases system <;> exact rfl

theorem csrMhpmcounter22 (nv wm : Word) : Statement (.csrMhpmcounter22 nv wm) := by
  intro system _
  cases system <;> exact rfl

theorem csrMhpmcounter23 (nv wm : Word) : Statement (.csrMhpmcounter23 nv wm) := by
  intro system _
  cases system <;> exact rfl

theorem csrMhpmcounter24 (nv wm : Word) : Statement (.csrMhpmcounter24 nv wm) := by
  intro system _
  cases system <;> exact rfl

theorem csrMhpmcounter25 (nv wm : Word) : Statement (.csrMhpmcounter25 nv wm) := by
  intro system _
  cases system <;> exact rfl

theorem csrMhpmcounter26 (nv wm : Word) : Statement (.csrMhpmcounter26 nv wm) := by
  intro system _
  cases system <;> exact rfl

theorem csrMhpmcounter27 (nv wm : Word) : Statement (.csrMhpmcounter27 nv wm) := by
  intro system _
  cases system <;> exact rfl

theorem csrMhpmcounter28 (nv wm : Word) : Statement (.csrMhpmcounter28 nv wm) := by
  intro system _
  cases system <;> exact rfl

theorem csrMhpmcounter29 (nv wm : Word) : Statement (.csrMhpmcounter29 nv wm) := by
  intro system _
  cases system <;> exact rfl

theorem csrMhpmcounter30 (nv wm : Word) : Statement (.csrMhpmcounter30 nv wm) := by
  intro system _
  cases system <;> exact rfl

theorem csrMhpmcounter31 (nv wm : Word) : Statement (.csrMhpmcounter31 nv wm) := by
  intro system _
  cases system <;> exact rfl

theorem csrMcycleh (nv wm : Word) : Statement (.csrMcycleh nv wm) := by
  intro system _
  cases system <;> exact rfl

theorem csrMinstreth (nv wm : Word) : Statement (.csrMinstreth nv wm) := by
  intro system _
  cases system <;> exact rfl

theorem csrMhpmcounter3h (nv wm : Word) : Statement (.csrMhpmcounter3h nv wm) := by
  intro system _
  cases system <;> exact rfl

theorem csrMhpmcounter4h (nv wm : Word) : Statement (.csrMhpmcounter4h nv wm) := by
  intro system _
  cases system <;> exact rfl

theorem csrMhpmcounter5h (nv wm : Word) : Statement (.csrMhpmcounter5h nv wm) := by
  intro system _
  cases system <;> exact rfl

theorem csrMhpmcounter6h (nv wm : Word) : Statement (.csrMhpmcounter6h nv wm) := by
  intro system _
  cases system <;> exact rfl

theorem csrMhpmcounter7h (nv wm : Word) : Statement (.csrMhpmcounter7h nv wm) := by
  intro system _
  cases system <;> exact rfl

theorem csrMhpmcounter8h (nv wm : Word) : Statement (.csrMhpmcounter8h nv wm) := by
  intro system _
  cases system <;> exact rfl

theorem csrMhpmcounter9h (nv wm : Word) : Statement (.csrMhpmcounter9h nv wm) := by
  intro system _
  cases system <;> exact rfl

theorem csrMhpmcounter10h (nv wm : Word) : Statement (.csrMhpmcounter10h nv wm) := by
  intro system _
  cases system <;> exact rfl

theorem csrMhpmcounter11h (nv wm : Word) : Statement (.csrMhpmcounter11h nv wm) := by
  intro system _
  cases system <;> exact rfl

theorem csrMhpmcounter12h (nv wm : Word) : Statement (.csrMhpmcounter12h nv wm) := by
  intro system _
  cases system <;> exact rfl

theorem csrMhpmcounter13h (nv wm : Word) : Statement (.csrMhpmcounter13h nv wm) := by
  intro system _
  cases system <;> exact rfl

theorem csrMhpmcounter14h (nv wm : Word) : Statement (.csrMhpmcounter14h nv wm) := by
  intro system _
  cases system <;> exact rfl

theorem csrMhpmcounter15h (nv wm : Word) : Statement (.csrMhpmcounter15h nv wm) := by
  intro system _
  cases system <;> exact rfl

theorem csrMhpmcounter16h (nv wm : Word) : Statement (.csrMhpmcounter16h nv wm) := by
  intro system _
  cases system <;> exact rfl

theorem csrMhpmcounter17h (nv wm : Word) : Statement (.csrMhpmcounter17h nv wm) := by
  intro system _
  cases system <;> exact rfl

theorem csrMhpmcounter18h (nv wm : Word) : Statement (.csrMhpmcounter18h nv wm) := by
  intro system _
  cases system <;> exact rfl

theorem csrMhpmcounter19h (nv wm : Word) : Statement (.csrMhpmcounter19h nv wm) := by
  intro system _
  cases system <;> exact rfl

theorem csrMhpmcounter20h (nv wm : Word) : Statement (.csrMhpmcounter20h nv wm) := by
  intro system _
  cases system <;> exact rfl

theorem csrMhpmcounter21h (nv wm : Word) : Statement (.csrMhpmcounter21h nv wm) := by
  intro system _
  cases system <;> exact rfl

theorem csrMhpmcounter22h (nv wm : Word) : Statement (.csrMhpmcounter22h nv wm) := by
  intro system _
  cases system <;> exact rfl

theorem csrMhpmcounter23h (nv wm : Word) : Statement (.csrMhpmcounter23h nv wm) := by
  intro system _
  cases system <;> exact rfl

theorem csrMhpmcounter24h (nv wm : Word) : Statement (.csrMhpmcounter24h nv wm) := by
  intro system _
  cases system <;> exact rfl

theorem csrMhpmcounter25h (nv wm : Word) : Statement (.csrMhpmcounter25h nv wm) := by
  intro system _
  cases system <;> exact rfl

theorem csrMhpmcounter26h (nv wm : Word) : Statement (.csrMhpmcounter26h nv wm) := by
  intro system _
  cases system <;> exact rfl

theorem csrMhpmcounter27h (nv wm : Word) : Statement (.csrMhpmcounter27h nv wm) := by
  intro system _
  cases system <;> exact rfl

theorem csrMhpmcounter28h (nv wm : Word) : Statement (.csrMhpmcounter28h nv wm) := by
  intro system _
  cases system <;> exact rfl

theorem csrMhpmcounter29h (nv wm : Word) : Statement (.csrMhpmcounter29h nv wm) := by
  intro system _
  cases system <;> exact rfl

theorem csrMhpmcounter30h (nv wm : Word) : Statement (.csrMhpmcounter30h nv wm) := by
  intro system _
  cases system <;> exact rfl

theorem csrMhpmcounter31h (nv wm : Word) : Statement (.csrMhpmcounter31h nv wm) := by
  intro system _
  cases system <;> exact rfl

theorem csrCycle (nv wm : Word) : Statement (.csrCycle nv wm) := by
  intro system h
  cases system
  · exact Bool.noConfusion h
  · exact rfl

theorem csrInstret (nv wm : Word) : Statement (.csrInstret nv wm) := by
  intro system h
  cases system
  · exact Bool.noConfusion h
  · exact rfl

theorem csrHpmcounter3 (nv wm : Word) : Statement (.csrHpmcounter3 nv wm) := by
  intro system _
  cases system <;> exact rfl

theorem csrHpmcounter4 (nv wm : Word) : Statement (.csrHpmcounter4 nv wm) := by
  intro system _
  cases system <;> exact rfl

theorem csrHpmcounter5 (nv wm : Word) : Statement (.csrHpmcounter5 nv wm) := by
  intro system _
  cases system <;> exact rfl

theorem csrHpmcounter6 (nv wm : Word) : Statement (.csrHpmcounter6 nv wm) := by
  intro system _
  cases system <;> exact rfl

theorem csrHpmcounter7 (nv wm : Word) : Statement (.csrHpmcounter7 nv wm) := by
  intro system _
  cases system <;> exact rfl

theorem csrHpmcounter8 (nv wm : Word) : Statement (.csrHpmcounter8 nv wm) := by
  intro system _
  cases system <;> exact rfl

theorem csrHpmcounter9 (nv wm : Word) : Statement (.csrHpmcounter9 nv wm) := by
  intro system _
  cases system <;> exact rfl

theorem csrHpmcounter10 (nv wm : Word) : Statement (.csrHpmcounter10 nv wm) := by
  intro system _
  cases system <;> exact rfl

theorem csrHpmcounter11 (nv wm : Word) : Statement (.csrHpmcounter11 nv wm) := by
  intro system _
  cases system <;> exact rfl

theorem csrHpmcounter12 (nv wm : Word) : Statement (.csrHpmcounter12 nv wm) := by
  intro system _
  cases system <;> exact rfl

theorem csrHpmcounter13 (nv wm : Word) : Statement (.csrHpmcounter13 nv wm) := by
  intro system _
  cases system <;> exact rfl

theorem csrHpmcounter14 (nv wm : Word) : Statement (.csrHpmcounter14 nv wm) := by
  intro system _
  cases system <;> exact rfl

theorem csrHpmcounter15 (nv wm : Word) : Statement (.csrHpmcounter15 nv wm) := by
  intro system _
  cases system <;> exact rfl

theorem csrHpmcounter16 (nv wm : Word) : Statement (.csrHpmcounter16 nv wm) := by
  intro system _
  cases system <;> exact rfl

theorem csrHpmcounter17 (nv wm : Word) : Statement (.csrHpmcounter17 nv wm) := by
  intro system _
  cases system <;> exact rfl

theorem csrHpmcounter18 (nv wm : Word) : Statement (.csrHpmcounter18 nv wm) := by
  intro system _
  cases system <;> exact rfl

theorem csrHpmcounter19 (nv wm : Word) : Statement (.csrHpmcounter19 nv wm) := by
  intro system _
  cases system <;> exact rfl

theorem csrHpmcounter20 (nv wm : Word) : Statement (.csrHpmcounter20 nv wm) := by
  intro system _
  cases system <;> exact rfl

theorem csrHpmcounter21 (nv wm : Word) : Statement (.csrHpmcounter21 nv wm) := by
  intro system _
  cases system <;> exact rfl

theorem csrHpmcounter22 (nv wm : Word) : Statement (.csrHpmcounter22 nv wm) := by
  intro system _
  cases system <;> exact rfl

theorem csrHpmcounter23 (nv wm : Word) : Statement (.csrHpmcounter23 nv wm) := by
  intro system _
  cases system <;> exact rfl

theorem csrHpmcounter24 (nv wm : Word) : Statement (.csrHpmcounter24 nv wm) := by
  intro system _
  cases system <;> exact rfl

theorem csrHpmcounter25 (nv wm : Word) : Statement (.csrHpmcounter25 nv wm) := by
  intro system _
  cases system <;> exact rfl

theorem csrHpmcounter26 (nv wm : Word) : Statement (.csrHpmcounter26 nv wm) := by
  intro system _
  cases system <;> exact rfl

theorem csrHpmcounter27 (nv wm : Word) : Statement (.csrHpmcounter27 nv wm) := by
  intro system _
  cases system <;> exact rfl

theorem csrHpmcounter28 (nv wm : Word) : Statement (.csrHpmcounter28 nv wm) := by
  intro system _
  cases system <;> exact rfl

theorem csrHpmcounter29 (nv wm : Word) : Statement (.csrHpmcounter29 nv wm) := by
  intro system _
  cases system <;> exact rfl

theorem csrHpmcounter30 (nv wm : Word) : Statement (.csrHpmcounter30 nv wm) := by
  intro system _
  cases system <;> exact rfl

theorem csrHpmcounter31 (nv wm : Word) : Statement (.csrHpmcounter31 nv wm) := by
  intro system _
  cases system <;> exact rfl

theorem csrCycleh (nv wm : Word) : Statement (.csrCycleh nv wm) := by
  intro system h
  cases system
  · exact Bool.noConfusion h
  · exact rfl

theorem csrInstreth (nv wm : Word) : Statement (.csrInstreth nv wm) := by
  intro system h
  cases system
  · exact Bool.noConfusion h
  · exact rfl

theorem csrHpmcounter3h (nv wm : Word) : Statement (.csrHpmcounter3h nv wm) := by
  intro system _
  cases system <;> exact rfl

theorem csrHpmcounter4h (nv wm : Word) : Statement (.csrHpmcounter4h nv wm) := by
  intro system _
  cases system <;> exact rfl

theorem csrHpmcounter5h (nv wm : Word) : Statement (.csrHpmcounter5h nv wm) := by
  intro system _
  cases system <;> exact rfl

theorem csrHpmcounter6h (nv wm : Word) : Statement (.csrHpmcounter6h nv wm) := by
  intro system _
  cases system <;> exact rfl

theorem csrHpmcounter7h (nv wm : Word) : Statement (.csrHpmcounter7h nv wm) := by
  intro system _
  cases system <;> exact rfl

theorem csrHpmcounter8h (nv wm : Word) : Statement (.csrHpmcounter8h nv wm) := by
  intro system _
  cases system <;> exact rfl

theorem csrHpmcounter9h (nv wm : Word) : Statement (.csrHpmcounter9h nv wm) := by
  intro system _
  cases system <;> exact rfl

theorem csrHpmcounter10h (nv wm : Word) : Statement (.csrHpmcounter10h nv wm) := by
  intro system _
  cases system <;> exact rfl

theorem csrHpmcounter11h (nv wm : Word) : Statement (.csrHpmcounter11h nv wm) := by
  intro system _
  cases system <;> exact rfl

theorem csrHpmcounter12h (nv wm : Word) : Statement (.csrHpmcounter12h nv wm) := by
  intro system _
  cases system <;> exact rfl

theorem csrHpmcounter13h (nv wm : Word) : Statement (.csrHpmcounter13h nv wm) := by
  intro system _
  cases system <;> exact rfl

theorem csrHpmcounter14h (nv wm : Word) : Statement (.csrHpmcounter14h nv wm) := by
  intro system _
  cases system <;> exact rfl

theorem csrHpmcounter15h (nv wm : Word) : Statement (.csrHpmcounter15h nv wm) := by
  intro system _
  cases system <;> exact rfl

theorem csrHpmcounter16h (nv wm : Word) : Statement (.csrHpmcounter16h nv wm) := by
  intro system _
  cases system <;> exact rfl

theorem csrHpmcounter17h (nv wm : Word) : Statement (.csrHpmcounter17h nv wm) := by
  intro system _
  cases system <;> exact rfl

theorem csrHpmcounter18h (nv wm : Word) : Statement (.csrHpmcounter18h nv wm) := by
  intro system _
  cases system <;> exact rfl

theorem csrHpmcounter19h (nv wm : Word) : Statement (.csrHpmcounter19h nv wm) := by
  intro system _
  cases system <;> exact rfl

theorem csrHpmcounter20h (nv wm : Word) : Statement (.csrHpmcounter20h nv wm) := by
  intro system _
  cases system <;> exact rfl

theorem csrHpmcounter21h (nv wm : Word) : Statement (.csrHpmcounter21h nv wm) := by
  intro system _
  cases system <;> exact rfl

theorem csrHpmcounter22h (nv wm : Word) : Statement (.csrHpmcounter22h nv wm) := by
  intro system _
  cases system <;> exact rfl

theorem csrHpmcounter23h (nv wm : Word) : Statement (.csrHpmcounter23h nv wm) := by
  intro system _
  cases system <;> exact rfl

theorem csrHpmcounter24h (nv wm : Word) : Statement (.csrHpmcounter24h nv wm) := by
  intro system _
  cases system <;> exact rfl

theorem csrHpmcounter25h (nv wm : Word) : Statement (.csrHpmcounter25h nv wm) := by
  intro system _
  cases system <;> exact rfl

theorem csrHpmcounter26h (nv wm : Word) : Statement (.csrHpmcounter26h nv wm) := by
  intro system _
  cases system <;> exact rfl

theorem csrHpmcounter27h (nv wm : Word) : Statement (.csrHpmcounter27h nv wm) := by
  intro system _
  cases system <;> exact rfl

theorem csrHpmcounter28h (nv wm : Word) : Statement (.csrHpmcounter28h nv wm) := by
  intro system _
  cases system <;> exact rfl

theorem csrHpmcounter29h (nv wm : Word) : Statement (.csrHpmcounter29h nv wm) := by
  intro system _
  cases system <;> exact rfl

theorem csrHpmcounter30h (nv wm : Word) : Statement (.csrHpmcounter30h nv wm) := by
  intro system _
  cases system <;> exact rfl

theorem csrHpmcounter31h (nv wm : Word) : Statement (.csrHpmcounter31h nv wm) := by
  intro system _
  cases system <;> exact rfl

theorem csrMvendorid (nv wm : Word) : Statement (.csrMvendorid nv wm) := by
  intro system _
  cases system <;> exact rfl

theorem csrMarchid (nv wm : Word) : Statement (.csrMarchid nv wm) := by
  intro system _
  cases system <;> exact rfl

theorem csrMimpid (nv wm : Word) : Statement (.csrMimpid nv wm) := by
  intro system _
  cases system <;> exact rfl

theorem csrMhartid (nv wm : Word) : Statement (.csrMhartid nv wm) := by
  intro system _
  cases system <;> exact rfl

theorem csrFflagsUserBuild (nv wm : Word) : Statement (.csrFflagsUserBuild nv wm) := by
  intro system h
  cases system
  · exact rfl
  · exact Bool.noConfusion h

theorem csrFrmUserBuild (nv wm : Word) : Statement (.csrFrmUserBuild nv wm) := by
  intro system h
  cases system
  · exact rfl
  · exact Bool.noConfusion h

theorem csrFcsrUserBuild (nv wm : Word) : Statement (.csrFcsrUserBuild nv wm) := by
  intro system h
  cases system
  · exact rfl
  · exact Bool.noConfusion h

theorem csrCycleUserBuild (nv wm : Word) : Statement (.csrCycleUserBuild nv wm) := by
  intro system h
  cases system
  · exact rfl
  · exact Bool.noConfusion h

theorem csrTimeUserBuild (nv wm : Word) : Statement (.csrTimeUserBuild nv wm) := by
  intro system _
  cases system <;> exact rfl

theorem csrInstretUserBuild (nv wm : Word) : Statement (.csrInstretUserBuild nv wm) := by
  intro system h
  cases system
  · exact rfl
  · exact Bool.noConfusion h

theorem csrCyclehUserBuild (nv wm : Word) : Statement (.csrCyclehUserBuild nv wm) := by
  intro system h
  cases system
  · exact rfl
  · exact Bool.noConfusion h

theorem csrTimehUserBuild (nv wm : Word) : Statement (.csrTimehUserBuild nv wm) := by
  intro system _
  cases system <;> exact rfl

theorem csrInstrethUserBuild (nv wm : Word) : Statement (.csrInstrethUserBuild nv wm) := by
  intro system h
  cases system
  · exact rfl
  · exact Bool.noConfusion h

end Sys2Proof.Laws.DecodeEncode
end

