-- ==== Sys2Proof/Tests/Slice0.lean ====
section
/-! SUPPORT. Small tests. Expected values are taken from the spec: the tables of 95_test_vectors.md, the encodings of
30_encoding.md and the masks of 10_state.md. The `test_witness_…` theorems meet the hypotheses of the statements. -/

namespace Sys2Proof.Tests

open Sys2Proof.Machine

/-! ### Helpers -/

abbrev cur64 : Config := Config.default .rv64 .v1_10_0
abbrev leg64 : Config := Config.default .rv64 .v1_9_1
abbrev cur32 : Config := Config.default .rv32 .v1_10_0
abbrev leg32 : Config := Config.default .rv32 .v1_9_1
abbrev reset : Bank := Bank.reset
abbrev ones : Word := 0xFFFFFFFFFFFFFFFF

/-- A machine with this configuration, bank and inbox; every other field as after reset. -/
def machine (c : Config) (b : Bank) (inbox : List Input) : State :=
  { State.resetOf c with bank := b, inbox := inbox }

/-- What a step answers, when it is a next state. -/
def next (s : State) : Option State :=
  match step s with
  | .next t => some t
  | .fault _ => none
  | .refused _ => none

/-- The output and the bank after one call. -/
def called (c : Config) (b : Bank) (n : BitVec 12) (nv wm : Word) : Option (Option AccessResult × Bank × List Event) :=
  (next (machine c b [.call n nv wm])).map fun t => (t.result, t.bank, t.events)

/-- The state after one instruction word, run with `x5` as given. -/
def ran (b : Bank) (x5 : Word) (w : BitVec 32) : Option State :=
  next ((machine cur64 b [.insn w]).writeX 5 x5)

/-! ### Well-formedness: an ill-formed term for each check -/

/-- R74: a newValue wider than XLEN. -/
theorem test_wf_newValue_too_wide : (Instr.csrMscratch 0x100000000 0).wf cur32 = false := by decide

/-- R74: a writeMask wider than XLEN. -/
theorem test_wf_writeMask_too_wide : (Instr.csrMscratch 0 0x100000000).wf cur32 = false := by decide

/-- R141: the row of the other build, both ways. -/
theorem test_wf_row_of_the_other_build :
    (Instr.csrFcsrUserBuild 0 0).wf cur64 = false ∧ (Instr.csrFcsr 0 0).wf { cur64 with system := false } = false := by
  decide

theorem test_wf_accepts :
    (Instr.csrMscratch 0xFFFFFFFF 0xFFFFFFFF).wf cur32 = true ∧ (Instr.csrMscratch ones ones).wf cur64 = true
      ∧ (Instr.csrrw 0xFFF 31 31).wf cur32 = true ∧ (Instr.csrFcsrUserBuild 0 0).wf { cur64 with system := false } = true := by
  decide

/-! ### Decoding: words written out from R95 and numbers from the table -/

/-- R95: `csr[31:20] rs1[19:15] funct3[14:12] rd[11:7] 1110011`, bit by bit, csr = 0x340, rs1 = 5, rd = 10. -/
theorem test_decode_csrrw : decode true (.insn 0b0011010000000010100101010_1110011) = .ok (.csrrw 0x340 5 10) := by rfl
theorem test_decode_csrrs : decode true (.insn 0b0011010000000010101001010_1110011) = .ok (.csrrs 0x340 5 10) := by rfl
theorem test_decode_csrrc : decode true (.insn 0b0011010000000010101101010_1110011) = .ok (.csrrc 0x340 5 10) := by rfl
theorem test_decode_csrrwi : decode true (.insn 0b0011010000001111110101010_1110011) = .ok (.csrrwi 0x340 31 10) := by rfl
theorem test_decode_csrrsi : decode true (.insn 0b0011010000001000111001010_1110011) = .ok (.csrrsi 0x340 17 10) := by rfl
theorem test_decode_csrrci : decode true (.insn 0b0011010000001111111101010_1110011) = .ok (.csrrci 0x340 31 10) := by rfl

/-- R95: ECALL (funct3 0), funct3 4 and another opcode are no CSR instruction. -/
theorem test_decode_rejects_words :
    decode true (.insn 0x00000073) = .error .otherSystemInstruction
      ∧ decode true (.insn 0x34054573) = .error .reservedFunct3 ∧ decode true (.insn 0x00000013) = .error .notSystemOpcode :=
  ⟨rfl, rfl, rfl⟩

/-- R99: one register number of each family. -/
theorem test_decode_numbers :
    decode true (.call 0x003 1 2) = .ok (.csrFcsr 1 2) ∧ decode true (.call 0x100 1 2) = .ok (.csrSstatus 1 2)
      ∧ decode true (.call 0x180 1 2) = .ok (.csrSatp 1 2) ∧ decode true (.call 0x344 1 2) = .ok (.csrMip 1 2)
      ∧ decode true (.call 0x3A3 1 2) = .ok (.csrPmpcfg3 1 2) ∧ decode true (.call 0x3BF 1 2) = .ok (.csrPmpaddr15 1 2)
      ∧ decode true (.call 0x33F 1 2) = .ok (.csrMhpmevent31 1 2) ∧ decode true (.call 0xB02 1 2) = .ok (.csrMinstret 1 2)
      ∧ decode true (.call 0xB83 1 2) = .ok (.csrMhpmcounter3h 1 2) ∧ decode true (.call 0xC1F 1 2) = .ok (.csrHpmcounter31 1 2)
      ∧ decode true (.call 0xF14 1 2) = .ok (.csrMhartid 1 2) :=
  ⟨rfl, rfl, rfl, rfl, rfl, rfl, rfl, rfl, rfl, rfl, rfl⟩

/-- R141: the numbers of the build without the privilege layer, one that only the full
build binds (a row all the same: its access fails), and one that no row has. -/
theorem test_decode_user_build :
    decode false (.call 0x001 1 2) = .ok (.csrFflagsUserBuild 1 2) ∧ decode false (.call 0xC00 1 2) = .ok (.csrCycleUserBuild 1 2)
      ∧ decode false (.call 0xC81 1 2) = .ok (.csrTimehUserBuild 1 2) ∧ decode false (.call 0x300 1 2) = .ok (.csrMstatus 1 2)
      ∧ decode false (.call 0x7B0 1 2) = .error .unboundNumber :=
  ⟨rfl, rfl, rfl, rfl, rfl⟩

/-- R93: numbers that no row has. -/
theorem test_decode_unbound :
    decode true (.call 0x000 1 2) = .error .unboundNumber ∧ decode true (.call 0x322 1 2) = .error .unboundNumber
      ∧ decode true (.call 0x3A4 1 2) = .error .unboundNumber ∧ decode true (.call 0x3C0 1 2) = .error .unboundNumber
      ∧ decode true (.call 0xB01 1 2) = .error .unboundNumber ∧ decode true (.call 0xFFF 1 2) = .error .unboundNumber :=
  ⟨rfl, rfl, rfl, rfl, rfl, rfl⟩

/-! ### Register numbers: rows of 95_test_vectors.md -/

/-- Row V8 of 95_test_vectors.md. -/
theorem test_write_with_empty_mask_to_read_only_succeeds :
    called cur64 reset 0xF14 ones 0x0 =
      some (some (.success 0x0), reset, []) := by decide

/-- Row V10 of 95_test_vectors.md. -/
theorem test_unbound_number :
    called cur64 reset 0x7B0 0x0 0x0 =
      some (some (.failure .unsupportedRegister), reset, []) := by decide

/-- Row V13 of 95_test_vectors.md. -/
theorem test_time_unbound_on_full_build :
    called cur64 reset 0xC01 0x0 0x0 =
      some (some (.failure .unsupportedRegister), reset, []) := by decide

/-- Row V15 of 95_test_vectors.md. -/
theorem test_high_half_unbound_on_rv64 :
    called cur64 reset 0xC80 0x0 0x0 =
      some (some (.failure .unsupportedRegister), reset, []) := by decide

/-- Row V20 of 95_test_vectors.md. -/
theorem test_mscratch_masked_write :
    called cur64 ({ reset with mscratch := 0xF0F0 }) 0x340 0x1234 0xFF00 =
      some (some (.success 0xF0F0), { reset with mscratch := 0x12F0 }, []) := by decide

/-- Row V24 of 95_test_vectors.md. -/
theorem test_mepc_keeps_low_bits :
    called cur64 reset 0x341 0x80000003 ones =
      some (some (.success 0x0), { reset with mepc := 0x80000003 }, []) := by decide

/-- Row V25 of 95_test_vectors.md. -/
theorem test_mcause_top_bit :
    called cur64 reset 0x342 ones 0x8000000000000000 =
      some (some (.success 0x0), { reset with mcause := 0x8000000000000000 }, []) := by decide

/-- Row V26 of 95_test_vectors.md. -/
theorem test_mbadaddr_clear :
    called cur64 ({ reset with mbadaddr := 0x1FF }) 0x343 0x0 0xFF =
      some (some (.success 0x1FF), { reset with mbadaddr := 0x100 }, []) := by decide

/-- Row V27 of 95_test_vectors.md. -/
theorem test_sscratch :
    called cur64 ({ reset with priv := .s }) 0x140 0xABC ones =
      some (some (.success 0x0), { reset with priv := .s, sscratch := 0xABC }, []) := by decide

/-- Row V28 of 95_test_vectors.md. -/
theorem test_sepc :
    called cur64 ({ reset with priv := .s }) 0x141 0x1001 ones =
      some (some (.success 0x0), { reset with priv := .s, sepc := 0x1001 }, []) := by decide

/-- Row V29 of 95_test_vectors.md. -/
theorem test_scause :
    called cur64 ({ reset with priv := .s }) 0x142 0x8 ones =
      some (some (.success 0x0), { reset with priv := .s, scause := 0x8 }, []) := by decide

/-- Row V32 of 95_test_vectors.md. -/
theorem test_rv32_port_width :
    called cur32 reset 0x341 ones ones =
      some (some (.success 0x0), { reset with mepc := 0xFFFFFFFF }, []) := by decide

/-- Row V33 of 95_test_vectors.md. -/
theorem test_mcounteren :
    called cur64 reset 0x306 ones 0x8 =
      some (some (.success 0x0), { reset with mcounteren := 0x8 }, []) := by decide

/-- Row V34 of 95_test_vectors.md. -/
theorem test_mcounteren_legacy_unsupported :
    called leg64 reset 0x306 0x0 0x0 =
      some (some (.failure .unsupportedRegister), reset, []) := by decide

/-- Row V36 of 95_test_vectors.md. -/
theorem test_scounteren :
    called cur64 ({ reset with priv := .s }) 0x106 0x5 ones =
      some (some (.success 0x0), { reset with priv := .s, scounteren := 0x5 }, []) := by decide

/-- Row V38 of 95_test_vectors.md. -/
theorem test_mucounteren_is_scounteren :
    called leg64 reset 0x320 0x5 ones =
      some (some (.success 0x0), { reset with scounteren := 0x5 }, []) := by decide

/-- Row V40 of 95_test_vectors.md. -/
theorem test_mscounteren_is_mcounteren :
    called leg64 reset 0x321 0x7 ones =
      some (some (.success 0x0), { reset with mcounteren := 0x7 }, []) := by decide

/-- Row V52 of 95_test_vectors.md. -/
theorem test_mstatus_mpp_u_absent_kept :
    called ({ cur64 with misa := 0x800000000004112D }) ({ reset with mstatus := 0x1800 }) 0x300 0x0 0x1800 =
      some (some (.success 0x1800), { reset with mstatus := 0x1800 }, []) := by decide

/-- Row V71 of 95_test_vectors.md. -/
theorem test_mstatus_all_ones_rv32 :
    called cur32 reset 0x300 ones ones =
      some (some (.success 0x0), { reset with mstatus := 0x800E79AA }, [.invalidate]) := by decide

/-- Row V75 of 95_test_vectors.md. -/
theorem test_sstatus_legacy_read :
    called leg64 ({ reset with priv := .s, mstatus := 0x800C0000 }) 0x100 0x0 0x0 =
      some (some (.success 0x40000), { reset with priv := .s, mstatus := 0x800C0000 }, []) := by decide

/-- Row V80 of 95_test_vectors.md. -/
theorem test_sstatus_fs_dirty :
    called cur64 ({ reset with priv := .s }) 0x100 ones 0x2000 =
      some (some (.success 0x0), { reset with priv := .s, mstatus := 0x8000000000006000 }, []) := by decide

/-- Row V84 of 95_test_vectors.md. -/
theorem test_medeleg :
    called cur64 reset 0x302 ones ones =
      some (some (.success 0x0), { reset with medeleg := 0xBFFF }, []) := by decide

/-- Row V87 of 95_test_vectors.md. -/
theorem test_mideleg :
    called cur64 reset 0x303 0xFFF ones =
      some (some (.success 0x0), { reset with mideleg := 0x222 }, []) := by decide

/-- Row V89 of 95_test_vectors.md. -/
theorem test_mie :
    called cur64 reset 0x304 0xFFFF ones =
      some (some (.success 0x0), { reset with mie := 0xAAA }, []) := by decide

/-- Row V91 of 95_test_vectors.md. -/
theorem test_sie_write :
    called cur64 ({ reset with priv := .s, mideleg := 0x222, mie := 0x888 }) 0x104 0x222 ones =
      some (some (.success 0x0), { reset with priv := .s, mideleg := 0x222, mie := 0xAAA }, []) := by decide

/-- Row V94 of 95_test_vectors.md. -/
theorem test_sie_clear_through_mideleg :
    called cur64 ({ reset with priv := .s, mideleg := 0x20, mie := 0xAAA }) 0x104 0x0 ones =
      some (some (.success 0x20), { reset with priv := .s, mideleg := 0x20, mie := 0xA8A }, []) := by decide

/-- Row V96 of 95_test_vectors.md. -/
theorem test_mip_locked_write :
    called cur64 ({ reset with mip := 0x880 }) 0x344 ones 0xFFF =
      some (some (.success 0x880), { reset with mip := 0x8A2 }, [.lock, .getAndSetPending 0x22 0x22, .unlock]) := by decide

/-- Row V100 of 95_test_vectors.md. -/
theorem test_mip_masked_away_is_lock_free :
    called cur64 reset 0x344 ones 0x888 =
      some (some (.success 0x0), reset, [.readPending]) := by decide

/-- Row V103 of 95_test_vectors.md. -/
theorem test_sip_cut_to_mideleg :
    called cur64 ({ reset with priv := .s, mideleg := 0x2, mip := 0x80 }) 0x144 ones 0x22 =
      some (some (.success 0x80), { reset with priv := .s, mideleg := 0x2, mip := 0x82 }, [.lock, .getAndSetPending 0x2 0x2, .unlock]) := by decide

/-- Row V105 of 95_test_vectors.md. -/
theorem test_sip_shows_whole_word :
    called cur64 ({ reset with priv := .s, mip := 0x2 }) 0x144 0x0 ones =
      some (some (.success 0x2), { reset with priv := .s, mip := 0x2 }, [.readPending]) := by decide

/-- Row V107 of 95_test_vectors.md. -/
theorem test_mtvec_vectored_ignored :
    called cur64 ({ reset with mtvec := 0x100 }) 0x305 0x80000001 ones =
      some (some (.success 0x100), { reset with mtvec := 0x100 }, []) := by decide

/-- Row V110 of 95_test_vectors.md. -/
theorem test_mtvec_masked_write :
    called cur64 ({ reset with mtvec := 0x100 }) 0x305 ones 0xF0 =
      some (some (.success 0x100), { reset with mtvec := 0x1F0 }, []) := by decide

/-- Row V112 of 95_test_vectors.md. -/
theorem test_stvec_vectored_ignored :
    called cur64 ({ reset with priv := .s }) 0x105 0x2 ones =
      some (some (.success 0x0), { reset with priv := .s }, []) := by decide

/-- Row V113 of 95_test_vectors.md. -/
theorem test_stvec :
    called cur64 ({ reset with priv := .s }) 0x105 0x80001000 ones =
      some (some (.success 0x0), { reset with priv := .s, stvec := 0x80001000 }, []) := by decide

/-- Row V115 of 95_test_vectors.md. -/
theorem test_misa_write_discarded :
    called cur32 reset 0x301 0x0 ones =
      some (some (.success 0x4014112D), reset, []) := by decide

/-- Row V118 of 95_test_vectors.md. -/
theorem test_satp_illegal_mode_ignored :
    called cur64 ({ reset with priv := .s, satp := 0x8000000000000100 }) 0x180 0xF000000000000200 ones =
      some (some (.success 0x8000000000000100), { reset with priv := .s, satp := 0x8000000000000100 }, []) := by decide

/-- Row V127 of 95_test_vectors.md. -/
theorem test_sptbr_masked_and_invalidates :
    called leg64 ({ reset with sptbr := 0x5 }) 0x180 0x10000000005 ones =
      some (some (.success 0x5), { reset with sptbr := 0x5 }, [.invalidate]) := by decide

/-- Row V139 of 95_test_vectors.md. -/
theorem test_mvendorid : called cur64 reset 0xF11 0x0 0x0 = some (some (.success 0x0), reset, []) := by decide

/-- Row V141 of 95_test_vectors.md. -/
theorem test_marchid : called cur64 reset 0xF12 0x0 0x0 = some (some (.success 0x0), reset, []) := by decide

/-- Row V143 of 95_test_vectors.md. -/
theorem test_mhartid :
    called ({ cur64 with mhartid := 2 }) reset 0xF14 0x0 0x0 =
      some (some (.success 0x2), reset, []) := by decide

/-- Row V142 of 95_test_vectors.md. -/
theorem test_mimpid_denied_at_s :
    called cur64 ({ reset with priv := .s }) 0xF13 0x0 0x0 =
      some (some (.failure .accessDenied), { reset with priv := .s }, []) := by decide

/-- Row V146 of 95_test_vectors.md. -/
theorem test_hpmcounter3_enabled_at_s :
    called cur64 ({ reset with priv := .s, mcounteren := 0x8 }) 0xC03 0x0 0x0 =
      some (some (.success 0x0), { reset with priv := .s, mcounteren := 0x8 }, []) := by decide

/-- Row V148 of 95_test_vectors.md. -/
theorem test_hpmcounter31_enabled_at_u :
    called cur64 ({ reset with priv := .u, scounteren := 0x80000000 }) 0xC1F 0x0 0x0 =
      some (some (.success 0x0), { reset with priv := .u, scounteren := 0x80000000 }, []) := by decide

/-- Row V149 of 95_test_vectors.md. -/
theorem test_enable_word_low_half :
    called cur64 ({ reset with priv := .s, mcounteren := 0xFFFFFFFF00000000 }) 0xC1F 0x0 0x0 =
      some (some (.failure .accessDenied), { reset with priv := .s, mcounteren := 0xFFFFFFFF00000000 }, []) := by decide

/-- Row V150 of 95_test_vectors.md. -/
theorem test_hpmcounter4h :
    called cur32 ({ reset with priv := .u, scounteren := 0x10 }) 0xC84 0x0 0x0 =
      some (some (.success 0x0), { reset with priv := .u, scounteren := 0x10 }, []) := by decide

/-- Row V151 of 95_test_vectors.md. -/
theorem test_hpmcounter5h_denied :
    called cur32 ({ reset with priv := .u, scounteren := 0x10 }) 0xC85 0x0 0x0 =
      some (some (.failure .accessDenied), { reset with priv := .u, scounteren := 0x10 }, []) := by decide

/-- Row V152 of 95_test_vectors.md. -/
theorem test_mhpmcounter3 :
    called cur64 reset 0xB03 0x5 ones =
      some (some (.success 0x0), reset, []) := by decide

/-- Row V153 of 95_test_vectors.md. -/
theorem test_mhpmcounter31h :
    called cur32 reset 0xB9F 0x0 0x0 =
      some (some (.success 0x0), reset, []) := by decide

/-- Row V154 of 95_test_vectors.md. -/
theorem test_mhpmevent3 :
    called cur64 reset 0x323 ones 0xFF =
      some (some (.success 0x0), reset, []) := by decide

/-- Row V171 of 95_test_vectors.md. -/
theorem test_fflags :
    called cur64 ({ reset with priv := .u, mstatus := 0x2000, fflags := 0x1 }) 0x1 ones 0x30 =
      some (some (.success 0x1), { reset with priv := .u, mstatus := 0x6000, fflags := 0x11 }, []) := by decide

/-- Row V172 of 95_test_vectors.md. -/
theorem test_frm_low_three_bits :
    called cur64 ({ reset with mstatus := 0x8000000000006000 }) 0x2 0xD ones =
      some (some (.success 0x0), { reset with mstatus := 0x8000000000006000, frm := 0x5 }, []) := by decide

/-- Row V174 of 95_test_vectors.md. -/
theorem test_fcsr_fields :
    called cur64 ({ reset with priv := .s, mstatus := 0x8000000000006000, fflags := 0x1F }) 0x3 0x1E1 ones =
      some (some (.success 0x1F), { reset with priv := .s, mstatus := 0x8000000000006000, fflags := 0x1, frm := 0x7 }, []) := by decide

/-- Row V177 of 95_test_vectors.md. -/
theorem test_frm_write_of_same_value_is_dirty :
    called cur64 ({ reset with mstatus := 0x4000, frm := 0x3 }) 0x2 0x3 ones =
      some (some (.success 0x3), { reset with mstatus := 0x6000, frm := 0x3 }, []) := by decide

/-- Row V178 of 95_test_vectors.md. -/
theorem test_fflags_user_build :
    called ({ cur64 with system := false }) reset 0x1 0x1F ones =
      some (some (.success 0x0), { reset with fflags := 0x1F }, []) := by decide

/-- Row V183 of 95_test_vectors.md. -/
theorem test_fcsr_user_build :
    called ({ cur64 with system := false }) ({ reset with priv := .u, fflags := 0x1, frm := 0x2 }) 0x3 0x0 0x0 =
      some (some (.success 0x41), { reset with priv := .u, fflags := 0x1, frm := 0x2 }, []) := by decide

/-- Row V184 of 95_test_vectors.md. -/
theorem test_user_build_has_no_hpm :
    called ({ cur64 with system := false }) reset 0xC03 0x0 0x0 =
      some (some (.failure .unsupportedRegister), reset, []) := by decide

/-! ### Free values: the count and the PMP table -/

/-- R241, rows of the counters: the low word of the count, whatever it is; one `CurrentCount` event. -/
theorem test_cycle_reads_the_count :
    let s := machine cur64 { reset with priv := .u, scounteren := 0x1 } [.call 0xC00 0 0]
    (next s).map (fun t => (t.result, t.events)) = some (some (.success (Xlen.rv64.trunc (nextCount s))), [.currentCount]) := by rfl

/-- R242: bit 2 of the enable word, not bit 0. -/
theorem test_instret_needs_bit_2 :
    called cur64 { reset with priv := .s, mcounteren := 0x1 } 0xC02 0 0
      = some (some (.failure .accessDenied), { reset with priv := .s, mcounteren := 0x1 }, []) := by decide

/-- R245, D26: a write is discarded; the value returned is the last count from then on. -/
theorem test_mcycle_write_discarded :
    let s := machine cur64 reset [.call 0xB00 ones ones]
    (next s).map (fun t => (t.result, t.bank, t.count)) = some (some (.success (Xlen.rv64.trunc (nextCount s))), reset, nextCount s) := by rfl

/-- R247: bits 63:32 of the count on RV32. -/
theorem test_mcycleh_reads_the_high_half :
    let s := machine cur32 reset [.call 0xB80 0 0]
    (next s).map (·.result) = some (some (.success (nextCount s >>> 32))) := by rfl

/-- R214: the index is the number less 0x3A0, and a write follows the read. -/
theorem test_pmpcfg2_write :
    let s := machine cur64 reset [.call 0x3A2 0x1F ones]
    (next s).map (·.events)
      = some [.pmpCfgRead 2, .pmpCfgWrite 2 (merged s (Xlen.rv64.trunc (Config.pmpCfgValue 0 2)) 0x1F ones)] := by rfl

/-- R215: the last address register, read only. -/
theorem test_pmpaddr15_read :
    (next (machine cur64 reset [.call 0x3BF 0x1F 0])).map (·.events) = some [.pmpAddrRead 15] := by rfl

/-- R141: `time` on the build without the privilege layer. -/
theorem test_time_user_build :
    let s := machine { cur64 with system := false } reset [.call 0xC01 0 0]
    (next s).map (·.result) = some (some (.success (Xlen.rv64.trunc (nextCount s)))) := by rfl

/-! ### CSR instructions: rows of 95_test_vectors.md -/

/-- Row I2. -/
theorem test_csrrs :
    (ran { reset with mscratch := 0xF0 } 0xF 0x3402A573).map (fun t => (t.readX 10, t.bank.mscratch)) = some (0xF0, 0xFF) := by
  decide

/-- Row I3. -/
theorem test_csrrc :
    (ran { reset with mscratch := 0xFF } 0xF 0x3402B573).map (fun t => (t.readX 10, t.bank.mscratch)) = some (0xFF, 0xF0) := by
  decide

/-- Row I4. -/
theorem test_csrrwi : (ran reset 0 0x340FD573).map (fun t => (t.readX 10, t.bank.mscratch)) = some (0, 0x1F) := by decide

/-- Row I5. -/
theorem test_csrrsi :
    (ran { reset with mscratch := 0x100 } 0 0x3408E573).map (fun t => (t.readX 10, t.bank.mscratch)) = some (0x100, 0x111) := by
  decide

/-- Row I6. -/
theorem test_csrrci :
    (ran { reset with mscratch := 0x3F } 0 0x340FF573).map (fun t => (t.readX 10, t.bank.mscratch)) = some (0x3F, 0x20) := by
  decide

/-- Row I8: a write to a read-only number traps, even with rd 0. -/
theorem test_csrrw_read_only_traps :
    (ran { reset with mtvec := 0x100 } 0 0xC0029073).map (fun t => (t.result, t.bank.mcause, t.bank.mepc, t.pc))
      = some (some (.failure .accessDenied), 2, 0x80000000, 0x100) := by decide

/-- Row I9: a source register holding 0 makes a pure read. -/
theorem test_csrrs_of_zero_is_a_read :
    (ran reset 0 0xC002A573).map (fun t => (t.events, t.pc)) = some ([.currentCount], 0x80000004) := by decide

/-- Row I12: floating-point state off. -/
theorem test_csrrwi_fflags_off_traps : (ran reset 0 0x00105073).map (·.bank.mcause) = some 2 := by decide

/-- Row I14. -/
theorem test_csrrc_mip :
    (ran { reset with mip := 0x822 } ones 0x3442B5F3).map (fun t => (t.readX 11, t.bank.mip, t.events))
      = some (0x822, 0x800, [.lock, .getAndSetPending 0x22 0, .unlock]) := by decide

/-- R96: the source register is read before the destination is written. -/
theorem test_csrrw_same_register :
    (ran { reset with mscratch := 0x7 } 0x55 0x340292F3).map (fun t => (t.readX 5, t.bank.mscratch, t.pc)) = some (0x7, 0x55, 0x80000004) := by
  decide

/-! ### Traps and inputs -/

/-- R309: a delegated exception goes to S. -/
theorem test_trap_to_s :
    (next (machine cur64 { reset with priv := .u, medeleg := 0x100, stvec := 0x200, mstatus := 0x2 } [.trapEntry (.exception .ecallU) 0x9])).map
      (fun t => (t.bank, t.pc))
    = some ({ reset with priv := .s, medeleg := 0x100, stvec := 0x200, mstatus := 0x20, sepc := 0x80000000, scause := 8, sbadaddr := 9 }, 0x200) := by
  decide

/-- R309: the level left goes to MPP, MIE to MPIE. -/
theorem test_trap_to_m :
    (next (machine cur64 { reset with priv := .s, mtvec := 0x300, mstatus := 0x8 } [.trapEntry (.exception .breakpoint) 0])).map
      (fun t => (t.bank, t.pc))
    = some ({ reset with priv := .m, mtvec := 0x300, mstatus := 0x880, mepc := 0x80000000, mcause := 3 }, 0x300) := by decide

/-- R310. -/
theorem test_mret :
    (next (machine cur64 { reset with mstatus := 0x880, mepc := 0x40 } [.mret])).map (fun t => (t.bank.priv, t.bank.mstatus, t.pc))
      = some (.s, 0x88, 0x40) := by decide

/-- R310. -/
theorem test_sret :
    (next (machine cur64 { reset with priv := .s, mstatus := 0x120, sepc := 0x40 } [.sret])).map
      (fun t => (t.bank.priv, t.bank.mstatus, t.pc)) = some (.s, 0x22, 0x40) := by decide

/-- R306: MEI before SSI; R303: the interrupt bit of the cause. -/
theorem test_interrupt_priority :
    (next (machine cur64 { reset with priv := .u, mip := 0x802, mie := 0x802 } [.pollInterrupts])).map (·.bank.mcause)
      = some 0x800000000000000B := by decide

/-- R76, R139: the controller's section first, then the locked write. -/
theorem test_locked_write_after_controller :
    (next { machine cur64 reset [.call 0x344 0x2 0x2] with irqLock := .heldByController 0x80 0x80 }).map
      (fun t => (t.bank.mip, t.result, t.irqLock)) = some (0x82, some (.success 0x80), .free) := by decide

/-- R342, R343: thread reset keeps the configuration. -/
theorem test_thread_reset :
    (next (machine leg32 { reset with priv := .u, mscratch := 5 } [.threadReset])).map (fun t => (t.bank, t.cfg)) = some (reset, leg32) := by
  decide

/-- The host's interface: a table word runs in the next step. -/
theorem test_withFetchWord : (next (State.reset.withFetchWord 12 0xF14)).map (·.result) = some (some (.success 0)) := by decide

/-! ### Witnesses: states and operands that meet the hypotheses of the statements -/

/-- A machine at level `p` with the default parameters and the given bank fields, at rest. -/
abbrev at_ (c : Config) (b : Bank) : State := machine c b []

theorem test_witness_StepRunsThePresentedInstruction :
    (machine cur64 reset [.insn 0x34029573]).inbox = inputOf (.insn 0x34029573) :: []
      ∧ decode true (.insn 0x34029573) = .ok (.csrrw 0x340 5 10)
      ∧ (machine cur64 reset [.call 0xF14 0 0]).inbox = inputOf (.call 0xF14 0 0) :: []
      ∧ decode true (.call 0xF14 0 0) = .ok (.csrMhartid 0 0) := ⟨rfl, rfl, rfl, rfl⟩

/-- Both outcomes, gated and unbound, and both builds. -/
theorem test_witness_UnboundNumbersFail :
    cur64.hasRecordedValues = true ∧ ({ cur64 with system := false } : Config).hasRecordedValues = true
      ∧ decode false (.call 0x7B0 0 0) = .error .unboundNumber ∧ decode cur64.system (.call 0x7B0 0 0) = .error .unboundNumber
      ∧ called cur64 reset 0x7B0 0 0 = some (some (.failure .unsupportedRegister), reset, [])
      ∧ called cur64 { reset with priv := .u } 0x7B0 0 0 = some (some (.failure .accessDenied), { reset with priv := .u }, [])
      ∧ decode cur64.system (.call 0xFFF 0 1) = .error .unboundNumber
      ∧ called cur64 reset 0xFFF 0 1 = some (some (.failure .accessDenied), reset, []) :=
  ⟨by decide, by decide, rfl, rfl, by decide, by decide, rfl, by decide⟩

/-- Each of the three ways to be no CSR instruction, and the empty inbox. -/
theorem test_witness_OtherWordsAreRefused :
    (0x00000013 : BitVec 32).extractLsb' 0 7 ≠ 0x73 ∧ (0x00000073 : BitVec 32).extractLsb' 12 3 = 0
      ∧ (0x34054573 : BitVec 32).extractLsb' 12 3 = 4
      ∧ step (machine cur64 reset [.insn 0x00000013]) = .refused .notCsrInstruction ∧ State.reset.inbox = [] := by
  and_intros <;> first | decide | rfl

theorem test_witness_DecodeAndEncodeAgree :
    decode true (encode (.csrFcsr 1 2)) = .ok (.csrFcsr 1 2) ∧ (Instr.csrFcsr 1 2).inBuild true = true
      ∧ decode false (encode (.csrFcsrUserBuild 1 2)) = .ok (.csrFcsrUserBuild 1 2) := ⟨rfl, rfl, rfl⟩

/-- Both disjuncts: a write to a read-only number, and a level too low. -/
theorem test_witness_GatingComesFirst :
    encode (.csrMhartid 0 1) = .call 0xF14 0 1 ∧ cur64.system = true
      ∧ (¬ pureRead (at_ cur64 reset) 1 ∧ (0xF14 : BitVec 12).extractLsb' 10 2 = 3)
      ∧ (at_ cur64 { reset with priv := .s }).bank.priv.code < (0x340 : BitVec 12).extractLsb' 8 2
      ∧ exec (.csrMhartid 0 1) (at_ cur64 reset) = .next (accessFailed (at_ cur64 reset) .accessDenied) := by
  and_intros <;> first | decide | rfl

/-- Both kinds of failure. -/
theorem test_witness_FailedAccessChangesNothing :
    exec (.csrMscratch 0 0) (at_ cur64 { reset with priv := .u })
        = .next (accessFailed (at_ cur64 { reset with priv := .u }) .accessDenied)
      ∧ exec (.csrMcounteren 0 0) (at_ leg64 reset) = .next (accessFailed (at_ leg64 reset) .unsupportedRegister) := by
  and_intros <;> first | decide | rfl

theorem test_witness_PureReadChangesNothing :
    pureRead (at_ cur32 reset) 0xFFFFFFFF00000000
      ∧ ∃ t, exec (.csrMscratch 7 0) (at_ cur64 reset) = .next t ∧ t.result = some (.success 0) ∧ t.draws = 0 :=
  ⟨by decide, _, rfl, rfl, rfl⟩

theorem test_witness_CallsLeaveTheRestAlone : encode (.csrMip 1 2) = .call 0x344 1 2 := by decide

/-- One call that invalidates, and one of another number. -/
theorem test_witness_OnlyTranslationWritesInvalidate :
    (∃ t, exec (.csrMstatus 0x800 ones) (at_ cur64 reset) = .next t ∧ t.events = [.invalidate])
      ∧ ∃ t, exec (.csrMepc 0x800 ones) (at_ cur64 reset) = .next t ∧ t.events = [] :=
  ⟨⟨_, rfl, by decide⟩, ⟨_, rfl, by decide⟩⟩

theorem test_witness_ControllerPendingBitsStay :
    cur64.hasRecordedValues = true ∧ (at_ cur64 { reset with mip := 0x880 }).irqLock = .free
      ∧ ∃ t, exec (.csrMip ones ones) (at_ cur64 { reset with mip := 0x880 }) = .next t ∧ t.bank.mip = 0x8A2 :=
  ⟨by decide, by decide, _, rfl, by decide⟩

/-- Both outcomes of the status word: kept, and dirty. -/
theorem test_witness_UserLevelReachesFloatStateOnly :
    (∃ t, exec (.csrFcsr 0xFF ones) (at_ cur64 { reset with priv := .u, mstatus := 0x2000 }) = .next t
        ∧ t.bank.mstatus = 0x6000 ∧ t.bank.frm = 7)
      ∧ ∃ t, exec (.csrFcsr 0 0) (at_ cur64 { reset with priv := .u, mstatus := 0x2000 }) = .next t
        ∧ t.bank.mstatus = 0x2000 := ⟨⟨_, rfl, by decide⟩, ⟨_, rfl, by decide⟩⟩

theorem test_witness_SupervisorLevelReach :
    (at_ cur64 { reset with priv := .s, mstatus := 0x1888 }).irqLock = .free
      ∧ ∃ t, exec (.csrSstatus ones ones) (at_ cur64 { reset with priv := .s, mstatus := 0x1888 }) = .next t
        ∧ t.bank.mstatus = 0x80000000000C79AA :=
  ⟨by decide, _, rfl, by decide⟩

theorem test_witness_ConfigurationNeverChanges :
    ∃ t, step (machine leg32 reset [.threadReset]) = .next t ∧ t.cfg = leg32 := ⟨_, rfl, by decide⟩

/-- A state away from reset, and one whose lock the controller holds. -/
theorem test_witness_EveryStepKeepsTheMachineInvariant :
    machineInv (machine cur32 { reset with mtvec := 0xFFFFFFFC, mie := 0xAAA, mideleg := 0x222 } [.call 0x305 4 0xFFFFFFFF])
      ∧ machineInv { machine cur64 reset [.controllerUnlock] with irqLock := .heldByController 1 1 }
      ∧ ∃ t, step (machine cur64 reset [.call 0x305 4 ones]) = .next t ∧ t.bank.mtvec = 4 :=
  ⟨by decide, by decide, _, rfl, by decide⟩

theorem test_witness_ResetMeetsTheMachineInvariant : leg32.misa.fits leg32.xlen ∧ leg32.mhartid.fits leg32.xlen := by decide

/-- FS off, and FS dirty with SD; a trap keeps both. -/
theorem test_witness_StatusWordStaysNormal :
    statusNormal .rv64 0 ∧ statusNormal .rv64 0x8000000000006000 ∧ statusNormal .rv32 0x80006000
      ∧ ∃ t, exec (.csrrw 0xF14 0 0) (at_ cur64 { reset with mstatus := 0x8000000000006000 }) = .next t
        ∧ t.bank.mstatus = 0x8000000000007800 := ⟨by decide, by decide, by decide, _, rfl, by decide⟩

/-- A write of every bit of the port, in both versions. -/
theorem test_witness_ReadOnlyStatusBitsStay :
    encode (.csrMstatus ones ones) = .call 0x300 ones ones
      ∧ ∃ t, exec (.csrMstatus ones ones) (at_ leg64 { reset with mstatus := 0x100000 }) = .next t
        ∧ t.bank.mstatus = 0x80000000001E79AA := ⟨rfl, _, rfl, by decide⟩

/-- A vector that only the trap port could have left with low bits set, and `sie`. -/
theorem test_witness_WritingBackWhatWasRead :
    (at_ cur64 { reset with mtvec := 0x101 }).irqLock = .free ∧ pureRead (at_ cur64 reset) 0
      ∧ (∃ t, exec (.csrMtvec 0 0) (at_ cur64 { reset with mtvec := 0x101 }) = .next t ∧ t.result = some (.success 0x101)
        ∧ ∃ u, exec (.csrMtvec 0x101 ones) t = .next u ∧ u.bank = { reset with mtvec := 0x101 })
      ∧ encode (.csrMtvec 0x101 ones) = .call 0x305 0x101 ones :=
  ⟨by decide, by decide, ⟨_, rfl, by decide, _, rfl, by decide⟩, rfl⟩

theorem test_witness_CountNeverFalls : ∃ t, step (machine cur64 reset [.call 0xB00 0 0]) = .next t ∧ t.draws = 1 :=
  ⟨_, rfl, by decide⟩

/-- Each clause of `PassThroughRegisters`, at its lowest level and below. -/
theorem test_witness_PassThroughRegisters :
    reaches (at_ cur64 reset) .m ∧ reaches (at_ cur64 { reset with priv := .s }) .s
      ∧ ((at_ cur64 { reset with priv := .u }).cfg.system = true ∧ (at_ cur64 { reset with priv := .u }).bank.priv = .u) := by
  decide

/-- Both versions of `CounterEnableRegisters`. -/
theorem test_witness_CounterEnableRegisters :
    reaches (at_ leg64 reset) .m ∧ reaches (at_ leg64 { reset with priv := .s }) .s ∧ leg64.privVer = .v1_9_1
      ∧ exec (.csrMscounteren 7 ones) (at_ leg64 reset)
        = .next (accessDone (at_ leg64 reset) 0 { reset with mcounteren := 7 } []) := by
  and_intros <;> first | decide | rfl

/-- A pure read and a write of `MstatusAccess`, in both versions, with numbers worked out from R165 to R170. -/
theorem test_witness_MstatusAccess :
    reaches (at_ cur64 reset) .m ∧ cur64.isThisHardware = true ∧ leg32.isThisHardware = true
      ∧ pureRead (at_ cur64 reset) 0
      ∧ specMstatus cur64 0 ones = 0x80000000000E79AA ∧ specMstatus leg64 0 0x9000000 = 0x9000000
      ∧ specMstatus leg32 0 0x9000000 = 0 ∧ specMstatus leg32 0 0x18000000 = 0x18000000 ∧ specMstatus cur64 0x1000 0x4000 = 0x8000000000006000
      ∧ specFlush leg64 0 0x9000000 = [.invalidate] ∧ specFlush cur64 0 0x79AA = [.invalidate]
      ∧ specFlush cur64 0 0x61AA = [] := by decide

theorem test_witness_SstatusAccess :
    reaches (at_ cur64 { reset with priv := .s }) .s ∧ cur64.isThisHardware = true
      ∧ ¬ pureRead (at_ cur64 { reset with priv := .s }) ones := by decide

/-- Both clauses of `StatusWriteForcesDirtyAndSummary`: FS 1 merged, FS 0 merged. -/
theorem test_witness_StatusWriteForcesDirtyAndSummary :
    reaches (at_ cur64 reset) .m ∧ ¬ pureRead (at_ cur64 reset) 0x6000
      ∧ merged (at_ cur64 reset) 0 0x2000 0x6000 &&& 0x6000 ≠ 0 ∧ merged (at_ cur64 reset) 0 0 0x6000 &&& 0x6000 = 0 := by
  decide

theorem test_witness_DelegationAndEnableRegisters : reaches (at_ cur32 reset) .m ∧ cur32.isThisHardware = true := by decide

theorem test_witness_SieView :
    reaches (at_ cur64 { reset with priv := .s, mideleg := 0x222 }) .s ∧ cur64.isThisHardware = true := by decide

/-- Both branches of `MipAccess` and `SipAccess`: a mask that survives, and one that does not. -/
theorem test_witness_MipAccess :
    reaches (at_ cur64 reset) .m ∧ (at_ cur64 reset).irqLock = .free
      ∧ (ones &&& 0x222 &&& ~~~0x200 : Word) ≠ 0 ∧ (0x200 &&& 0x222 &&& ~~~0x200 : Word) = 0 := by decide

theorem test_witness_SipAccess :
    reaches (at_ cur64 { reset with priv := .s, mideleg := 0x2 }) .s
      ∧ (at_ cur64 { reset with priv := .s, mideleg := 0x2 }).irqLock = .free
      ∧ ((ones &&& 0x2) &&& 0x222 &&& ~~~0x200 : Word) ≠ 0 ∧ ((0x20 &&& 0x2) &&& 0x222 &&& ~~~0x200 : Word) = 0 := by decide

/-- Each clause of `ControllerUpdateComesFirst`: mip and sip, with a bit that survives the mask and without. -/
theorem test_witness_ControllerUpdateComesFirst :
    let s : State := { at_ cur64 reset with irqLock := .heldByController 0x80 0x80 }
    let u : State := { at_ cur64 { reset with priv := .s, mideleg := 0x2 } with irqLock := .heldByController 0x80 0x80 }
    reaches s .m ∧ s.cfg.isThisHardware = true ∧ s.cfg.xlen.trunc 2 &&& 0x22 ≠ 0 ∧ s.cfg.xlen.trunc 0x200 &&& 0x22 = 0
      ∧ exec (.csrMip 0 0x200) s = .next (accessDone s 0 reset [.readPending])
      ∧ reaches u .s ∧ u.cfg.xlen.trunc 2 &&& u.bank.mideleg &&& 0x22 ≠ 0
      ∧ u.cfg.xlen.trunc 0x20 &&& u.bank.mideleg &&& 0x22 = 0
      ∧ ∃ t, exec (.csrSip 2 2) u = .next t ∧ t.bank.mip = 0x82 ∧ t.result = some (.success 0x80) ∧ t.irqLock = .free :=
  ⟨by decide, by decide, by decide, by decide, rfl, by decide, by decide, by decide, _, rfl, by decide, by decide, by decide⟩

/-- Both branches: low two bits 0, and not. -/
theorem test_witness_TrapVectorRegisters :
    reaches (at_ cur64 reset) .m ∧ reaches (at_ cur64 { reset with priv := .s }) .s
      ∧ merged (at_ cur64 reset) 0 4 ones &&& 3 = 0 ∧ merged (at_ cur64 reset) 0 5 ones &&& 3 ≠ 0 := by decide

theorem test_witness_MisaAndIdentification :
    reaches (at_ cur64 reset) .m ∧ pureRead (at_ cur64 reset) 0 ∧ ¬ pureRead (at_ cur64 reset) 1 := by decide

/-- A legal change, an illegal mode and no change. -/
theorem test_witness_TranslationRootCurrent :
    let s := at_ cur64 { reset with priv := .s }
    reaches s .s ∧ s.cfg.isThisHardware = true ∧ s.cfg.hasMmu = true ∧ s.cfg.privVer = .v1_10_0
      ∧ exec (.csrSatp 0xA000000000000001 ones) s
        = .next (accessDone s 0 { reset with priv := .s, satp := 0xA000000000000001 } [.invalidate])
      ∧ exec (.csrSatp 0xB000000000000001 ones) s = .next (accessDone s 0 { reset with priv := .s } []) := by
  and_intros <;> first | decide | rfl

/-- Both clauses: the legacy version, and no translation. -/
theorem test_witness_TranslationRootLegacyAndAbsent :
    reaches (at_ leg32 { reset with priv := .s }) .s ∧ leg32.isThisHardware = true ∧ leg32.hasMmu = true ∧ leg32.privVer = .v1_9_1
      ∧ reaches (at_ { cur64 with hasMmu := false } { reset with priv := .s }) .s := by decide

theorem test_witness_PmpConfigRegisters :
    reaches (at_ cur64 reset) .m ∧ cur64.isThisHardware = true
      ∧ exec (.csrPmpcfg3 1 ones) (at_ cur64 reset)
        = .next (pmpDone (at_ cur64 reset) (Xlen.rv64.trunc (Config.pmpCfgValue 0 3)) [.pmpCfgRead 3, .pmpCfgWrite 3
          (merged (at_ cur64 reset) (Xlen.rv64.trunc (Config.pmpCfgValue 0 3)) 1 ones)]) := ⟨by decide, by decide, rfl⟩

theorem test_witness_PmpAddressRegisters :
    reaches (at_ cur64 reset) .m ∧ cur64.isThisHardware = true ∧ pureRead (at_ cur64 reset) 0
      ∧ exec (.csrPmpaddr0 1 0) (at_ cur64 reset)
        = .next (pmpDone (at_ cur64 reset) (Xlen.rv64.trunc (Config.pmpAddrValue 0 0)) [.pmpAddrRead 0]) :=
  ⟨by decide, by decide, by decide, rfl⟩

theorem test_witness_EventSelectorsAndMachineCountersReadZero :
    reaches (at_ cur64 reset) .m ∧ exec (.csrMhpmevent31 1 ones) (at_ cur64 reset) = .next (accessDone (at_ cur64 reset) 0 reset []) := by
  and_intros <;> first | decide | rfl

theorem test_witness_MachineCounterHighHalvesReadZero : reaches (at_ cur32 reset) .m ∧ (at_ cur32 reset).cfg.xlen = .rv32 := by
  decide

/-- Enabled and not, at U and S, at the first and the last counter; always at M. -/
theorem test_witness_PerformanceCountersGatedZero :
    pureRead (at_ cur64 reset) 0
      ∧ counterEnabled (at_ cur64 { reset with priv := .u, scounteren := 0x80000000 }) 31 = true
      ∧ counterEnabled (at_ cur64 { reset with priv := .u, scounteren := 0x80000000 }) 3 = false
      ∧ counterEnabled (at_ cur64 { reset with priv := .s, mcounteren := 0x8 }) 3 = true
      ∧ counterEnabled (at_ cur64 reset) 3 = true := by decide

theorem test_witness_PerformanceCounterHighHalvesGatedZero :
    (at_ cur32 reset).cfg.system = true ∧ (at_ cur32 reset).cfg.xlen = .rv32 ∧ pureRead (at_ cur32 reset) 0 := by decide

/-- Each clause: U with the bit, U without it, and M. -/
theorem test_witness_CycleAndInstretReadTheCount :
    pureRead (at_ cur64 { reset with priv := .u, scounteren := 4 }) 0
      ∧ counterEnabled (at_ cur64 { reset with priv := .u, scounteren := 4 }) 2 = true
      ∧ counterEnabled (at_ cur64 { reset with priv := .u, scounteren := 4 }) 0 = false ∧ reaches (at_ cur64 reset) .m
      ∧ exec (.csrMinstret 1 ones) (at_ cur64 reset)
        = .next (countDone (at_ cur64 reset) (Xlen.rv64.trunc (nextCount (at_ cur64 reset)))) :=
  ⟨by decide, by decide, by decide, by decide, rfl⟩

theorem test_witness_CounterHighHalvesReadTheCount :
    pureRead (at_ cur32 reset) 0 ∧ (at_ cur32 reset).cfg.xlen = .rv32 ∧ reaches (at_ cur32 reset) .m
      ∧ exec (.csrInstreth 0 0) (at_ cur32 reset) = .next (countDone (at_ cur32 reset) (nextCount (at_ cur32 reset) >>> 32)) :=
  ⟨by decide, by decide, by decide, rfl⟩

/-- `time` on the full build, both ends of a high-half range on RV64, and both clauses of the other build. -/
theorem test_witness_NumbersUnboundOnThisBuild :
    encode (.csrTimeUserBuild 0 0) = .call 0xC01 0 0 ∧ cur64.isThisHardware = true ∧ pureRead (at_ cur64 reset) 0
      ∧ (0xC01 : BitVec 12).extractLsb' 8 2 ≤ (at_ cur64 reset).bank.priv.code
      ∧ encode (.csrMcycleh 0 0) = .call 0xB80 0 0 ∧ encode (.csrHpmcounter31h 0 0) = .call 0xC9F 0 0
      ∧ exec (.csrHpmcounter31h 0 0) (at_ cur64 reset) = .next (accessFailed (at_ cur64 reset) .unsupportedRegister)
      ∧ encode (.csrMstatus 0 0) = .call 0x300 0 0 ∧ encode (.csrTimehUserBuild 0 0) = .call 0xC81 0 0
      ∧ exec (.csrTimehUserBuild 0 0) (at_ { cur64 with system := false } reset)
        = .next (accessFailed (at_ { cur64 with system := false } reset) .unsupportedRegister) := by
  and_intros <;> first | decide | rfl

/-- FS off and FS 1, a pure read and a write. -/
theorem test_witness_FloatRegisters :
    (0x2000 &&& 0x6000 : Word) ≠ 0 ∧ (0x800 &&& 0x6000 : Word) = 0 ∧ pureRead (at_ cur64 reset) 0
      ∧ exec (.csrFrm 0xD ones) (at_ cur64 { reset with mstatus := 0x2000 })
        = .next (accessDone (at_ cur64 { reset with mstatus := 0x2000 }) 0 { reset with mstatus := 0x6000, frm := 5 } []) := by
  and_intros <;> first | decide | rfl

theorem test_witness_FloatRegistersOfTheUserBuild :
    (at_ { cur64 with system := false } reset).cfg.system = false
      ∧ exec (.csrFcsrUserBuild 0xE1 ones) (at_ { cur64 with system := false } reset)
        = .next (accessDone (at_ { cur64 with system := false } reset) 0 { reset with frm := 7, fflags := 1 } []) := by
  and_intros <;> first | decide | rfl

theorem test_witness_CountersOfTheUserBuild :
    ({ cur32 with system := false } : Config).system = false ∧ ({ cur32 with system := false } : Config).xlen = .rv32
      ∧ exec (.csrTimehUserBuild 0 0) (at_ { cur32 with system := false } reset)
        = .next (countDone (at_ { cur32 with system := false } reset) (nextCount (at_ { cur32 with system := false } reset) >>> 32)) :=
  ⟨rfl, rfl, rfl⟩

/-- One access that succeeds, for each of the six. -/
theorem test_witness_CsrInstructionsRetire :
    let s := at_ cur64 { reset with mscratch := 9 }
    (accessRegister 0x340 (s.readX 5) s.cfg.xlen.ones s).result = some (.success 9)
      ∧ (accessRegister 0x340 s.cfg.xlen.ones (s.readX 5) s).result = some (.success 9)
      ∧ (accessRegister 0x340 0 (s.readX 5) s).result = some (.success 9)
      ∧ (accessRegister 0x340 ((31 : BitVec 5).setWidth 64) s.cfg.xlen.ones s).result = some (.success 9)
      ∧ (accessRegister 0x340 s.cfg.xlen.ones ((31 : BitVec 5).setWidth 64) s).result = some (.success 9)
      ∧ (accessRegister 0x340 0 ((31 : BitVec 5).setWidth 64) s).result = some (.success 9) := by decide

/-- A failing access, with the trap to M and with the trap to S. -/
theorem test_witness_CsrInstructionsTrapOnFailure :
    let s := at_ cur64 { reset with priv := .u, medeleg := 4 }
    (accessRegister 0x340 (s.readX 5) s.cfg.xlen.ones s).result = some (.failure .accessDenied)
      ∧ s.bank.priv ≠ .m ∧ s.bank.medeleg.getLsbD 2 = true ∧ reset.medeleg.getLsbD 2 = false
      ∧ (accessRegister 0xF14 0 ones (at_ cur64 reset)).result = some (.failure .accessDenied) := by decide

theorem test_witness_CsrInstructionsOnScratch :
    reaches (at_ cur32 { reset with mscratch := 0xFFFFFFFF }) .m ∧ Word.fits .rv32 0xFFFFFFFF = true := by decide

/-- Each clause of `SourceHoldingZeroIsAPureRead`, at the first and the last read-only number and at both ways to fail. -/
theorem test_witness_SourceHoldingZeroIsAPureRead :
    reaches (at_ cur64 reset) .m ∧ (at_ cur64 reset).cfg.xlen.trunc ((at_ cur64 reset).readX 5) = 0
      ∧ (at_ cur64 reset).cfg.xlen.trunc ((at_ cur64 reset).readX 0) = 0
      ∧ (0xC00 : BitVec 12).extractLsb' 10 2 = 3 ∧ (0xFFF : BitVec 12).extractLsb' 10 2 = 3
      ∧ (accessRegister 0xF14 0 0 (at_ cur64 reset)).result = some (.success 0)
      ∧ (accessRegister 0xC00 0 0 (at_ cur64 { reset with priv := .u })).result = some (.failure .accessDenied)
      ∧ (accessRegister 0xFFF 0 0 (at_ cur64 reset)).result = some (.failure .unsupportedRegister)
      ∧ (at_ cur64 { reset with priv := .u }).cfg.system = true := by decide

/-- Both targets: a delegated interrupt at S goes to S, an undelegated exception to M. -/
theorem test_witness_TrapEntrySavesAndRedirects :
    (machine cur64 reset [.trapEntry (.interrupt .ssi) 0]).inbox = .trapEntry (.interrupt .ssi) 0 :: []
      ∧ (next (machine cur64 { reset with priv := .s, mideleg := 2 } [.trapEntry (.interrupt .ssi) 0])).map (·.bank.priv) = some .s
      ∧ (next (machine cur64 { reset with priv := .u } [.trapEntry (.exception .ecallU) 0])).map (·.bank.priv) = some .m := by decide

/-- Each clause of `TrapReturnRestores`, with MPP at each legal level and at 2. -/
theorem test_witness_TrapReturnRestores :
    (∀ p ∈ [Priv.u, Priv.s, Priv.m], (setMpp 0 p.code).extractLsb' 11 2 = p.code
        ∧ (next (machine cur64 { reset with mstatus := setMpp 0 p.code } [.mret])).map (·.bank.priv) = some p)
      ∧ (0x1000 : Word).extractLsb' 11 2 = 2
      ∧ step (machine cur64 { reset with priv := .s } [.mret]) = .fault .returnNotAllowed
      ∧ step (machine cur64 { reset with priv := .u } [.sret]) = .fault .returnNotAllowed := by
  and_intros <;> first | decide | rfl

/-- The level is the free value, whatever it is. -/
theorem test_witness_TrapReturnToLevel2 :
    (next (machine cur64 { reset with mstatus := 0x1000 } [.mret])).map (·.bank.priv) = some (Config.returnLevel 0) := by rfl

/-- R5, R6: SYSTEM is true for this hardware; the other build has the recorded values and is not it. -/
theorem test_system_is_true_for_this_hardware :
    ({ cur64 with system := false } : Config).isThisHardware = false
      ∧ ({ leg32 with pmpAddrCount := 3000 } : Config).isThisHardware = false ∧ leg32.isThisHardware = true := by decide

theorem test_witness_TrapPortWritesDirectly :
    Word.fits .rv32 0xFFFFFFFF = true
      ∧ (next (machine cur32 { reset with priv := .u } [.trapPort (.mstatus 0xFFFFFFFF)])).map (fun t => (t.bank.mstatus, t.events))
        = some (0xFFFFFFFF, []) := by decide

theorem test_witness_ThreadResetValues : (machine cur64 reset [.threadReset]).inbox = .threadReset :: [] := by decide

/-- No source ready (empty words; at M with MIE clear), the first of the order ready, and only the last. -/
theorem test_witness_InterruptTakenByPriority :
    (next (machine cur64 { reset with mip := 0x800, mie := 0x800 } [.pollInterrupts])).map (·.bank.mcause) = some 0
      ∧ ([.mei, .msi, .mti, .sei, .ssi, .sti] : List InterruptSource) = [] ++ .mei :: [.msi, .mti, .sei, .ssi, .sti]
      ∧ ([.mei, .msi, .mti, .sei, .ssi, .sti] : List InterruptSource) = [.mei, .msi, .mti, .sei, .ssi] ++ .sti :: []
      ∧ (next (machine cur64 { reset with priv := .s, mstatus := 2, mip := 0x20, mie := 0x20, mideleg := 0x20 } [.pollInterrupts])).map
        (·.bank.scause) = some 0x8000000000000005 := by decide

theorem test_witness_ControllerUpdatesPendingWord :
    (at_ cur64 reset).irqLock = .free
      ∧ (next { machine cur64 { reset with mip := 0x22 } [.controllerUnlock] with irqLock := .heldByController 0xA0 0x80 }).map
        (fun t => (t.bank.mip, t.irqLock)) = some (0x82, .free) := by decide

/-- Each clause, register 0 among them. -/
theorem test_witness_EngineAndFloatUnitInputs :
    (next (machine cur64 reset [.fpuSetFlags 0x1F])).map (·.bank.fflags) = some 0x1F
      ∧ (next (machine cur64 reset [.setX 0 7])).map (·.readX 0) = some 0
      ∧ (next (machine cur32 reset [.setX 31 ones])).map (·.readX 31) = some 0xFFFFFFFF
      ∧ (next (machine cur64 reset [.setPc 0x40])).map (·.pc) = some 0x40 := by decide

end Sys2Proof.Tests
end

section
/-! SUPPORT. What an access can do (R121 to R140): the one inversion from which the invariants of the bank follow. -/

namespace Sys2Proof.Machine

/-! ### Instructions -/

/-- Every instruction answers a next state: a register number makes one access, a CSR instruction one access whose
result is then retired (R94, R96). -/
theorem exec_cases (i : Instr) (s : State) :
    (∃ n nv wm, encode i = .call n nv wm ∧ exec i s = .next (accessRegister n nv wm s)) ∨
    (∃ w csr c rd, encode i = .insn w ∧ exec i s = .next (csrInstruction csr c rd s)) := by
  cases i with
  | csrrw _ _ _ | csrrs _ _ _ | csrrc _ _ _ | csrrwi _ _ _ | csrrsi _ _ _ | csrrci _ _ _ =>
    exact .inr ⟨_, _, _, _, rfl, rfl⟩
  | _ => exact .inl ⟨_, _, _, rfl, rfl⟩

/-- A register-number instruction is one access of that number (R94). -/
theorem exec_of_encode_call {i : Instr} {n : BitVec 12} {nv wm : Word} (s : State) (h : encode i = .call n nv wm) :
    exec i s = .next (accessRegister n nv wm s) := by
  obtain ⟨_, _, _, he, hx⟩ | ⟨_, _, _, _, he, _⟩ := exec_cases i s
  · cases h.symm.trans he
    exact hx
  · cases h.symm.trans he

/-- What runs at the port is an access, or a CSR instruction (R93, R94, R96). -/
theorem runPort_next {p : PortWord} {s t : State} (h : runPort p s = .next t) :
    (∃ n nv wm, t = accessRegister n nv wm s) ∨ (∃ csr c rd, t = csrInstruction csr c rd s) := by
  unfold runPort at h
  split at h
  · rename_i i _
    obtain ⟨n, nv, wm, _, hx⟩ | ⟨_, csr, c, rd, _, hx⟩ := exec_cases i s
    · cases hx.symm.trans h
      exact .inl ⟨n, nv, wm, rfl⟩
    · cases hx.symm.trans h
      exact .inr ⟨csr, c, rd, rfl⟩
  · split at h
    · cases h
      exact .inl ⟨_, _, _, rfl⟩
    · cases h

/-- A step of a machine with an empty inbox is idle; any other step takes the next input (R80). -/
theorem step_next {s t : State} (h : step s = .next t) :
    t = s ∨ ∃ i rest, s.inbox = i :: rest ∧ runInput i { s with inbox := rest } = .next t := by
  unfold step runNext at h
  split at h
  · cases h
    exact .inl rfl
  · exact .inr ⟨_, _, ‹_›, h⟩

/-! ### What an access can write -/

/-- What the accessors of the number `n` can make of the bank `b` when the merged value is `v`: one field per number
(R99), by that field's rule. -/
inductive BankWrite (c : Config) (n : BitVec 12) (v : Word) (b : Bank) : Bank → Prop
  | same : BankWrite c n v b b
  | mscratch (h : n = 0x340) : BankWrite c n v b { b with mscratch := v }
  | mepc (h : n = 0x341) : BankWrite c n v b { b with mepc := v }
  | mcause (h : n = 0x342) : BankWrite c n v b { b with mcause := v }
  | mbadaddr (h : n = 0x343) : BankWrite c n v b { b with mbadaddr := v }
  | sscratch (h : n = 0x140) : BankWrite c n v b { b with sscratch := v }
  | sepc (h : n = 0x141) : BankWrite c n v b { b with sepc := v }
  | scause (h : n = 0x142) : BankWrite c n v b { b with scause := v }
  | sbadaddr (h : n = 0x143) : BankWrite c n v b { b with sbadaddr := v }
  | mcounteren (h : n = 0x306 ∨ n = 0x321) : BankWrite c n v b { b with mcounteren := v }
  | scounteren (h : n = 0x106 ∨ n = 0x320) : BankWrite c n v b { b with scounteren := v }
  | mstatus (h : n = 0x300) : BankWrite c n v b { b with mstatus := mstatusWritten c b.mstatus v }
  | sstatus (h : n = 0x100) :
      BankWrite c n v b { b with mstatus := mstatusWritten c b.mstatus (maskedWrite b.mstatus v (sstatusMask c)) }
  | medeleg (h : n = 0x302) : BankWrite c n v b { b with medeleg := maskedWrite b.medeleg v c.delegExc }
  | mideleg (h : n = 0x303) : BankWrite c n v b { b with mideleg := maskedWrite b.mideleg v c.delegInt }
  | mie (h : n = 0x304) : BankWrite c n v b { b with mie := maskedWrite b.mie v c.allInt }
  | sie (h : n = 0x104) :
      BankWrite c n v b { b with mie := maskedWrite b.mie (maskedWrite b.mie v b.mideleg) c.allInt }
  | mtvec (h : n = 0x305) : BankWrite c n v b { b with mtvec := vectorWritten b.mtvec v }
  | stvec (h : n = 0x105) : BankWrite c n v b { b with stvec := vectorWritten b.stvec v }
  | satp (h : n = 0x180) : BankWrite c n v b { b with satp := v }
  | sptbr (h : n = 0x180) : BankWrite c n v b { b with sptbr := v &&& sptbrMask c }
  | float (m : Word) (r : BitVec 3) (f : BitVec 5) (h : n = 0x001 ∨ n = 0x002 ∨ n = 0x003)
      (hm : m = b.mstatus ∨ fsOff b.mstatus = false ∧ m = b.mstatus ||| mstatusFS) :
      BankWrite c n v b { b with mstatus := m, frm := r, fflags := f }
  | pending (p : BitVec 32) (h : n = 0x344 ∨ n = 0x144) : BankWrite c n v b { b with mip := p }

/-- No number writes the level: it is not a register (R22). -/
theorem BankWrite.priv_eq {c : Config} {n : BitVec 12} {v : Word} {b b' : Bank} (h : BankWrite c n v b b') :
    b'.priv = b.priv := by
  cases h <;> rfl

/-- What an access of the number `n` leaves of the state, whether it succeeds or fails. -/
structure AccessEffect (n : BitVec 12) (s t : State) : Prop where
  cfg : t.cfg = s.cfg
  x : t.x = s.x
  pc : t.pc = s.pc
  inbox : t.inbox = s.inbox
  lock : t.irqLock = s.irqLock ∨ t.irqLock = .free
  /-- The merged value has XLEN bits when the fields it is merged from have. -/
  bank : ∃ v, (bankFits s.cfg.xlen s.bank → v.fits s.cfg.xlen) ∧ BankWrite s.cfg n v s.bank t.bank

/-- Leaving the state as it is is an effect any access may have. -/
theorem AccessEffect.refl (n : BitVec 12) (s : State) : AccessEffect n s s :=
  ⟨rfl, rfl, rfl, rfl, .inl rfl, 0, fun _ => by simp [Word.fits], .same⟩

/-! ### Widths of computed values (R74) -/

/-- A value fits exactly when it is below `2 ^ XLEN`. -/
theorem fits_iff_toNat_lt (x : Xlen) (v : Word) : v.fits x = true ↔ v.toNat < 2 ^ x.bits := by
  have hones : x.ones.toNat = 2 ^ x.bits - 1 := by cases x <;> rfl
  rw [fits_iff, Xlen.trunc, BitVec.toNat_eq, BitVec.toNat_and, hones, Nat.and_two_pow_sub_one_eq_mod,
    Nat.mod_eq_iff_lt (Nat.two_pow_pos _).ne']

/-- A value below `2 ^ 32` fits on either width. -/
theorem fits_of_toNat_lt (x : Xlen) {v : Word} (h : v.toNat < 2 ^ 32) : v.fits x = true := by
  rw [fits_iff_toNat_lt]
  cases x
  · exact h
  · exact v.isLt

theorem fits_setWidth {k : Nat} (x : Xlen) (v : BitVec k) (hk : k ≤ 32) : Word.fits x (v.setWidth 64) = true := by
  refine fits_of_toNat_lt x ?_
  calc (v.setWidth 64).toNat ≤ v.toNat := by simpa using Nat.mod_le _ _
    _ < 2 ^ k := v.isLt
    _ ≤ 2 ^ 32 := Nat.pow_le_pow_right (by decide) hk

theorem fits_and_right {x : Xlen} (a : Word) {b : Word} (hb : b.fits x = true) : Word.fits x (a &&& b) = true := by
  rw [fits_iff_toNat_lt] at *
  rw [BitVec.toNat_and]
  exact Nat.and_lt_two_pow _ hb

theorem fits_and_left {x : Xlen} {a : Word} (b : Word) (ha : a.fits x = true) : Word.fits x (a &&& b) = true := by
  rw [BitVec.and_comm]
  exact fits_and_right b ha

theorem fits_or {x : Xlen} {a b : Word} (ha : a.fits x = true) (hb : b.fits x = true) :
    Word.fits x (a ||| b) = true := by
  rw [fits_iff_toNat_lt] at *
  rw [BitVec.toNat_or]
  exact Nat.or_lt_two_pow ha hb

theorem fits_merge {x : Xlen} {p nv : Word} (wm : Word) (hp : p.fits x = true) (hn : nv.fits x = true) :
    (merge p nv wm).fits x = true :=
  fits_or (fits_and_left _ hp) (fits_and_left _ hn)

theorem fits_maskedWrite {x : Xlen} {old v : Word} (mask : Word) (ho : old.fits x = true) (hv : v.fits x = true) :
    (maskedWrite old v mask).fits x = true :=
  fits_or (fits_and_left _ ho) (fits_and_left _ hv)

theorem fits_setFlag {x : Xlen} {v mask : Word} (f : Bool) (hv : v.fits x = true) (hm : mask.fits x = true) :
    (setFlag v mask f).fits x = true := by
  cases f
  · exact fits_and_left _ hv
  · exact fits_or hv hm

theorem fits_fcsrWord (x : Xlen) (r : BitVec 3) (f : BitVec 5) : (fcsrWord r f).fits x = true := by
  refine fits_or (fits_of_toNat_lt x ?_) (fits_setWidth x f (by decide))
  have := r.isLt
  simp only [BitVec.toNat_shiftLeft, BitVec.toNat_setWidth, Nat.shiftLeft_eq]
  omega

/-! ### What an entry can do -/

/-- A read accessor leaves all of the state but the output, the count and the draws. -/
def ReadFrames (r : BitVec 12 → State → Except CsrError (Word × State)) : Prop :=
  ∀ n s p t, r n s = .ok (p, t) → ∃ evs k d, t = { s with events := evs, count := k, draws := d }

/-- A read accessor returns an XLEN-bit value when the bank's fields are XLEN bits wide. -/
def ReadFits (r : BitVec 12 → State → Except CsrError (Word × State)) : Prop :=
  ∀ n s p t, r n s = .ok (p, t) → bankFits s.cfg.xlen s.bank → p.fits s.cfg.xlen = true

/-- A write accessor at the number `n` changes the bank as `BankWrite` says, and beside it the events only. -/
def WriteActs (n : BitVec 12) (w : BitVec 12 → Word → State → Except CsrError State) : Prop :=
  ∀ v s t, w n v s = .ok t → ∃ b evs, t = { s with bank := b, events := evs } ∧ BankWrite s.cfg n v s.bank b

/-- An entry bound to the number `n` does no more than `AccessEffect` says. -/
def Entry.Acts (n : BitVec 12) (e : Entry) : Prop :=
  ∀ nv wm s p t, nv.fits s.cfg.xlen = true → e.run n nv wm s = .ok (p, t) → AccessEffect n s t

/-- A row's entry does no more than `AccessEffect` says, at every number the row binds. -/
def TableRow.Acts (r : TableRow) : Prop := ∀ x n, r.binds x n.toNat = true → r.entry.Acts n

section Accessors

variable {n : BitVec 12} {r : BitVec 12 → State → Except CsrError (Word × State)}
  {w : BitVec 12 → Word → State → Except CsrError State}

theorem oneRow_acts {k : Nat} {e : Entry} (h : e.Acts (BitVec.ofNat 12 k)) : (oneRow k e).Acts := by
  intro x n hn
  simp only [oneRow, TableRow.binds, Bool.and_eq_true] at hn
  obtain ⟨⟨hlow, hhigh⟩, -⟩ := hn
  have hk : n.toNat = k := Nat.le_antisymm (of_decide_eq_true hhigh) (of_decide_eq_true hlow)
  have hn : n = BitVec.ofNat 12 k := by rw [← hk, BitVec.ofNat_toNat, BitVec.setWidth_eq]
  exact hn ▸ h

/-- A `Read` entry is its read accessor, and writes nothing (R129). -/
theorem read_acts (hr : ReadFrames r) : (Entry.read r).Acts n := by
  intro nv wm s p t _ h
  obtain ⟨evs, k, d, rfl⟩ := hr n s p t h
  exact ⟨rfl, rfl, rfl, rfl, .inl rfl, (AccessEffect.refl n s).bank⟩

/-- A row whose entry discards writes (R129). -/
theorem readRow_acts {row : TableRow} (he : row.entry = .read r) (hr : ReadFrames r) : row.Acts :=
  fun _ _ _ => he ▸ read_acts hr

/-- R126 to R130: a `ReadWrite` entry reads, and writes the merged value unless the mask is empty. -/
theorem readWrite_acts (hr : ReadFrames r) (hf : ReadFits r) (hw : WriteActs n w) :
    (Entry.readWrite r w).Acts n := by
  intro nv wm s p t hn h
  simp only [run_readWrite, plainAccess] at h
  split at h
  · cases h
  · rename_i prior s1 hread
    have hread_effect := read_acts hr nv wm s prior s1 hn hread
    split at h
    · cases h
      exact hread_effect
    · split at h
      · cases h
      · rename_i u hwrite
        cases h
        obtain ⟨evs, k, d, rfl⟩ := hr n s p s1 hread
        obtain ⟨b, evs', rfl, hb⟩ := hw _ _ _ hwrite
        exact ⟨rfl, rfl, rfl, rfl, .inl rfl, _, fun hbank => fits_merge wm (hf n s p _ hread hbank) hn, hb⟩

/-! ### The accessors, by shape -/

/-- A read accessor that fails or returns a value and the state itself. -/
theorem readFrames_of_pure (h : ∀ n s, (∃ p, r n s = .ok (p, s)) ∨ ∃ k, r n s = .error k) : ReadFrames r := by
  intro n s p t hr
  obtain ⟨q, hq⟩ | ⟨k, hk⟩ := h n s
  · cases hq.symm.trans hr
    exact ⟨_, _, _, rfl⟩
  · cases hk.symm.trans hr

theorem readZero_frames : ReadFrames readZero := readFrames_of_pure fun _ _ => .inl ⟨_, rfl⟩

theorem readMhartid_frames : ReadFrames readMhartid := readFrames_of_pure fun _ _ => .inl ⟨_, rfl⟩

theorem readMisa_frames : ReadFrames readMisa := readFrames_of_pure fun _ _ => .inl ⟨_, rfl⟩

theorem readGatedZero_frames : ReadFrames readGatedZero := readFrames_of_pure fun n s => by
  unfold readGatedZero
  split
  · exact .inr ⟨_, rfl⟩
  · exact .inl ⟨_, rfl⟩

theorem readUserCount_frames : ReadFrames readUserCount := by
  intro n s p t h
  cases h
  exact ⟨_, _, _, rfl⟩

theorem readUserCounth_frames : ReadFrames readUserCounth := by
  intro n s p t h
  cases h
  exact ⟨_, _, _, rfl⟩

/-- Past the counter check, `cycle` and its like read as on the build without one (R241). -/
theorem readGatedCount_frames : ReadFrames readGatedCount := by
  intro n s p t h
  unfold readGatedCount at h
  split at h
  · cases h
  · exact readUserCount_frames n s p t h

theorem readGatedCounth_frames : ReadFrames readGatedCounth := by
  intro n s p t h
  unfold readGatedCounth at h
  split at h
  · cases h
  · exact readUserCounth_frames n s p t h

/-- The entry of a field of the bank: unless it fails, it reads the value `get` and makes the bank `set` (R150, R159,
R174, R181). -/
theorem fieldEntry_acts (get : Bank → Word) (set : Config → Bank → Word → Bank)
    (hr : ∀ n s, r n s = .ok (get s.bank, s) ∨ ∃ k, r n s = .error k)
    (hw : ∀ n v s, w n v s = .ok (s.setBank (set s.cfg s.bank v)) ∨ ∃ k, w n v s = .error k)
    (hfit : ∀ x b, bankFits x b → (get b).fits x = true)
    (hset : ∀ c b v, BankWrite c n v b (set c b v)) : (Entry.readWrite r w).Acts n := by
  refine readWrite_acts (readFrames_of_pure fun n s => (hr n s).imp_left fun h => ⟨_, h⟩) (fun n s p t h hb => ?_)
    (fun v s t h => ?_)
  · obtain hok | ⟨k, hk⟩ := hr n s
    · cases hok.symm.trans h
      exact hfit s.cfg.xlen s.bank hb
    · cases hk.symm.trans h
  · obtain hok | ⟨k, hk⟩ := hw n v s
    · cases hok.symm.trans h
      exact ⟨_, _, rfl, hset s.cfg s.bank v⟩
    · cases hk.symm.trans h

/-- The entry of a field that both versions have: neither accessor fails. -/
theorem plainField_acts (get : Bank → Word) (set : Config → Bank → Word → Bank)
    (hfit : ∀ x b, bankFits x b → (get b).fits x = true) (hset : ∀ c b v, BankWrite c n v b (set c b v)) :
    (Entry.readWrite (fun _ s => .ok (get s.bank, s)) (fun _ v s => .ok (s.setBank (set s.cfg s.bank v)))).Acts n :=
  fieldEntry_acts get set (fun _ _ => .inl rfl) (fun _ _ _ => .inl rfl) hfit hset

/-- R160. -/
theorem mcounteren_acts : (Entry.readWrite readMcounteren writeMcounteren).Acts 0x306 :=
  fieldEntry_acts (·.mcounteren) (fun _ b v => { b with mcounteren := v })
    (fun _ s => by cases h : s.cfg.privVer <;> simp [readMcounteren, h])
    (fun _ _ s => by cases h : s.cfg.privVer <;> simp [writeMcounteren, h])
    (fun _ _ h => by simp only [h]) (fun _ _ _ => .mcounteren (.inl rfl))

/-- R161. -/
theorem scounteren_acts : (Entry.readWrite readScounteren writeScounteren).Acts 0x106 :=
  fieldEntry_acts (·.scounteren) (fun _ b v => { b with scounteren := v })
    (fun _ s => by cases h : s.cfg.privVer <;> simp [readScounteren, h])
    (fun _ _ s => by cases h : s.cfg.privVer <;> simp [writeScounteren, h])
    (fun _ _ h => by simp only [h]) (fun _ _ _ => .scounteren (.inl rfl))

/-- R162. -/
theorem mucounteren_acts : (Entry.readWrite readMucounteren writeMucounteren).Acts 0x320 :=
  fieldEntry_acts (·.scounteren) (fun _ b v => { b with scounteren := v })
    (fun _ s => by cases h : s.cfg.privVer <;> simp [readMucounteren, h])
    (fun _ _ s => by cases h : s.cfg.privVer <;> simp [writeMucounteren, h])
    (fun _ _ h => by simp only [h]) (fun _ _ _ => .scounteren (.inr rfl))

/-- R163. -/
theorem mscounteren_acts : (Entry.readWrite readMscounteren writeMscounteren).Acts 0x321 :=
  fieldEntry_acts (·.mcounteren) (fun _ b v => { b with mcounteren := v })
    (fun _ s => by cases h : s.cfg.privVer <;> simp [readMscounteren, h])
    (fun _ _ s => by cases h : s.cfg.privVer <;> simp [writeMscounteren, h])
    (fun _ _ h => by simp only [h]) (fun _ _ _ => .mcounteren (.inr rfl))

/-- R164, R165. -/
theorem mstatus_acts : (Entry.readWrite readMstatus writeMstatusCsr).Acts 0x300 := by
  refine readWrite_acts (readFrames_of_pure fun _ _ => .inl ⟨_, rfl⟩) (fun _ s p t h hb => ?_) (fun v s t h => ?_)
  · cases h
    simp only [hb]
  · cases h
    exact ⟨_, _, writeMstatus_eq s v, .mstatus rfl⟩

/-- R172, R173. -/
theorem sstatus_acts : (Entry.readWrite readSstatus writeSstatus).Acts 0x100 := by
  refine readWrite_acts (readFrames_of_pure fun _ _ => .inl ⟨_, rfl⟩) (fun _ s p t h hb => ?_) (fun v s t h => ?_)
  · cases h
    exact fits_and_left _ (by simp only [hb])
  · cases h
    exact ⟨_, _, writeMstatus_eq s _, .sstatus rfl⟩

/-- R178. -/
theorem sie_acts : (Entry.readWrite readSie writeSie).Acts 0x104 :=
  plainField_acts (fun b => b.mie &&& b.mideleg)
    (fun c b v => { b with mie := maskedWrite b.mie (maskedWrite b.mie v b.mideleg) c.allInt })
    (fun _ _ h => fits_and_left _ (by simp only [h])) (fun _ _ _ => .sie rfl)

/-- R210 to R213. -/
theorem satp_acts : (Entry.readWrite readSatp writeSatp).Acts 0x180 := by
  refine readWrite_acts (readFrames_of_pure fun _ s => .inl ?_) (fun _ s p t h hb => ?_) (fun v s t h => ?_)
  · cases hm : s.cfg.hasMmu <;> cases hv : s.cfg.privVer <;> simp [readSatp, hm, hv]
  · unfold readSatp at h
    split at h
    · split at h <;> cases h <;> simp only [hb]
    · cases h
      simp [Word.fits]
  · unfold writeSatp at h
    split at h
    · split at h <;> cases h
      · unfold storeSptbr
        split
        · exact ⟨_, _, rfl, .same⟩
        · exact ⟨_, _, rfl, .sptbr rfl⟩
      · unfold storeSatp
        split
        · exact ⟨_, _, rfl, .satp rfl⟩
        · exact ⟨_, _, rfl, .same⟩
    · cases h
      exact ⟨_, _, rfl, .same⟩

/-- R214. -/
theorem pmpCfg_acts (n : BitVec 12) : (Entry.readWrite readPmpCfg writePmpCfg).Acts n := by
  refine readWrite_acts (fun _ s p t h => ?_) (fun _ s p t h _ => ?_) (fun v s t h => ?_) <;> cases h
  · exact ⟨_, _, _, rfl⟩
  · exact trunc_fits _ _
  · exact ⟨_, _, rfl, .same⟩

/-- R215. -/
theorem pmpAddr_acts (n : BitVec 12) : (Entry.readWrite readPmpAddr writePmpAddr).Acts n := by
  refine readWrite_acts (fun _ s p t h => ?_) (fun _ s p t h _ => ?_) (fun v s t h => ?_) <;> cases h
  · exact ⟨_, _, _, rfl⟩
  · exact trunc_fits _ _
  · exact ⟨_, _, rfl, .same⟩

/-- The entries of the floating-point registers (R260 to R265): `get` is read, and the write stores the fields `rm` and
`fl` beside the dirty mark. -/
theorem floatEntry_acts (get : Bank → Word) (rm : Bank → Word → BitVec 3)
    (fl : Bank → Word → BitVec 5) (hn : n = 0x001 ∨ n = 0x002 ∨ n = 0x003)
    (hr : ∀ n s, r n s = if fpDenied s then .error .accessDenied else .ok (get s.bank, s))
    (hw : ∀ n v s, w n v s = if fpDenied s then .error .accessDenied else
      .ok ((markDirty s).setBank
        { (markDirty s).bank with frm := rm (markDirty s).bank v, fflags := fl (markDirty s).bank v }))
    (hfit : ∀ x b, (get b).fits x = true) : (Entry.readWrite r w).Acts n := by
  refine readWrite_acts (readFrames_of_pure fun n s => ?_) (fun n s p t h _ => ?_) (fun v s t h => ?_)
  · rw [hr]
    split
    · exact .inr ⟨_, rfl⟩
    · exact .inl ⟨_, rfl⟩
  · rw [hr] at h
    split at h <;> cases h
    exact hfit _ _
  · rw [hw] at h
    split at h <;> cases h
    rename_i hd
    unfold markDirty
    split
    · rename_i hs
      refine ⟨_, _, rfl, .float _ _ _ hn (.inr ⟨?_, rfl⟩)⟩
      simpa [fpDenied, hs] using hd
    · exact ⟨_, _, rfl, .float _ _ _ hn (.inl rfl)⟩

/-- R262. -/
theorem fflags_acts : (Entry.readWrite readFflags writeFflags).Acts 0x001 :=
  floatEntry_acts (fun b => b.fflags.setWidth 64) (fun b _ => b.frm) (fun _ v => v.setWidth 5) (.inl rfl)
    (fun _ _ => rfl) (fun _ _ _ => rfl) (fun x b => fits_setWidth x b.fflags (by decide))

/-- R263. -/
theorem frm_acts : (Entry.readWrite readFrm writeFrm).Acts 0x002 :=
  floatEntry_acts (fun b => b.frm.setWidth 64) (fun _ v => v.setWidth 3) (fun b _ => b.fflags) (.inr (.inl rfl))
    (fun _ _ => rfl) (fun _ _ _ => rfl) (fun x b => fits_setWidth x b.frm (by decide))

/-- R264. -/
theorem fcsr_acts : (Entry.readWrite readFcsr writeFcsr).Acts 0x003 :=
  floatEntry_acts (fun b => fcsrWord b.frm b.fflags) (fun _ v => fcsrFrm v) (fun _ v => fcsrFflags v) (.inr (.inr rfl))
    (fun _ _ => rfl) (fun _ _ _ => rfl) (fun x b => fits_fcsrWord x b.frm b.fflags)

end Accessors

/-- The update the interrupt controller still has to make is one of `mip` (R76, R139). -/
theorem controllerFinish_eq (s : State) :
    ∃ p l, controllerFinish s = { s with bank := { s.bank with mip := p }, irqLock := l } ∧
      (s.irqLock ≠ .heldByHart → l = .free) := by
  unfold controllerFinish
  split
  · exact ⟨_, _, rfl, fun _ => rfl⟩
  · exact ⟨s.bank.mip, s.irqLock, rfl, fun h => absurd ‹_› h⟩
  · exact ⟨s.bank.mip, s.irqLock, rfl, fun _ => ‹_›⟩

/-- R179: the pending word, under the lock, and no other field. -/
theorem rmwMip_effect {n : BitVec 12} (hn : n = 0x344 ∨ n = 0x144) {nv wm : Word} {s t : State} {p : Word}
    (h : rmwMip n nv wm s = .ok (p, t)) : AccessEffect n s t := by
  unfold rmwMip at h
  dsimp only at h
  split at h <;> cases h
  · exact ⟨rfl, rfl, rfl, rfl, .inl rfl, (AccessEffect.refl n s).bank⟩
  · obtain ⟨q, l, hq, -⟩ := controllerFinish_eq s
    simp only [lockIrq, hq]
    exact ⟨rfl, rfl, rfl, rfl, .inr rfl, 0, fun _ => by simp [Word.fits], .pending _ hn⟩

/-! ### The table (R99, R141) -/

theorem lowerRows_act : ∀ row ∈ lowerRows, row.Acts := by
  simp only [lowerRows, List.forall_mem_cons]
  exact ⟨oneRow_acts fflags_acts, oneRow_acts frm_acts, oneRow_acts fcsr_acts, oneRow_acts sstatus_acts,
    oneRow_acts sie_acts,
    oneRow_acts (plainField_acts (·.stvec) (fun _ b v => { b with stvec := vectorWritten b.stvec v })
      (fun _ _ h => by simp only [h]) (fun _ _ _ => .stvec rfl)),
    oneRow_acts scounteren_acts,
    oneRow_acts (plainField_acts (·.sscratch) (fun _ b v => { b with sscratch := v })
      (fun _ _ h => by simp only [h]) (fun _ _ _ => .sscratch rfl)),
    oneRow_acts (plainField_acts (·.sepc) (fun _ b v => { b with sepc := v })
      (fun _ _ h => by simp only [h]) (fun _ _ _ => .sepc rfl)),
    oneRow_acts (plainField_acts (·.scause) (fun _ b v => { b with scause := v })
      (fun _ _ h => by simp only [h]) (fun _ _ _ => .scause rfl)),
    oneRow_acts (plainField_acts (·.sbadaddr) (fun _ b v => { b with sbadaddr := v })
      (fun _ _ h => by simp only [h]) (fun _ _ _ => .sbadaddr rfl)),
    oneRow_acts (fun _ _ _ _ _ _ h => rmwMip_effect (.inr rfl) h),
    oneRow_acts satp_acts, List.forall_mem_nil _⟩

theorem machineRows_act : ∀ row ∈ machineRows, row.Acts := by
  simp only [machineRows, List.forall_mem_cons]
  exact ⟨oneRow_acts mstatus_acts, readRow_acts rfl readMisa_frames,
    oneRow_acts (plainField_acts (·.medeleg) (fun c b v => { b with medeleg := maskedWrite b.medeleg v c.delegExc })
      (fun _ _ h => by simp only [h]) (fun _ _ _ => .medeleg rfl)),
    oneRow_acts (plainField_acts (·.mideleg) (fun c b v => { b with mideleg := maskedWrite b.mideleg v c.delegInt })
      (fun _ _ h => by simp only [h]) (fun _ _ _ => .mideleg rfl)),
    oneRow_acts (plainField_acts (·.mie) (fun c b v => { b with mie := maskedWrite b.mie v c.allInt })
      (fun _ _ h => by simp only [h]) (fun _ _ _ => .mie rfl)),
    oneRow_acts (plainField_acts (·.mtvec) (fun _ b v => { b with mtvec := vectorWritten b.mtvec v })
      (fun _ _ h => by simp only [h]) (fun _ _ _ => .mtvec rfl)),
    oneRow_acts mcounteren_acts, oneRow_acts mucounteren_acts, oneRow_acts mscounteren_acts,
    readRow_acts rfl readZero_frames,
    oneRow_acts (plainField_acts (·.mscratch) (fun _ b v => { b with mscratch := v })
      (fun _ _ h => by simp only [h]) (fun _ _ _ => .mscratch rfl)),
    oneRow_acts (plainField_acts (·.mepc) (fun _ b v => { b with mepc := v })
      (fun _ _ h => by simp only [h]) (fun _ _ _ => .mepc rfl)),
    oneRow_acts (plainField_acts (·.mcause) (fun _ b v => { b with mcause := v })
      (fun _ _ h => by simp only [h]) (fun _ _ _ => .mcause rfl)),
    oneRow_acts (plainField_acts (·.mbadaddr) (fun _ b v => { b with mbadaddr := v })
      (fun _ _ h => by simp only [h]) (fun _ _ _ => .mbadaddr rfl)),
    oneRow_acts (fun _ _ _ _ _ _ h => rmwMip_effect (.inl rfl) h), List.forall_mem_nil _⟩

/-- Every counter and identification register is one of five read accessors. -/
theorem counterRows_act : ∀ row ∈ counterRows, row.Acts := by
  simp only [counterRows, List.forall_mem_cons]
  exact ⟨readRow_acts rfl readGatedCount_frames, readRow_acts rfl readGatedCount_frames,
    readRow_acts rfl readZero_frames, readRow_acts rfl readGatedCounth_frames,
    readRow_acts rfl readGatedCounth_frames, readRow_acts rfl readZero_frames,
    readRow_acts rfl readGatedCount_frames, readRow_acts rfl readGatedCount_frames,
    readRow_acts rfl readGatedZero_frames, readRow_acts rfl readGatedCounth_frames,
    readRow_acts rfl readGatedCounth_frames, readRow_acts rfl readGatedZero_frames, readRow_acts rfl readZero_frames,
    readRow_acts rfl readZero_frames, readRow_acts rfl readZero_frames, readRow_acts rfl readMhartid_frames,
    List.forall_mem_nil _⟩

theorem pmpRows_act (c : Config) : ∀ row ∈ pmpRows c, row.Acts := by
  simp only [pmpRows, List.forall_mem_cons]
  exact ⟨fun _ n _ => pmpCfg_acts n, fun _ n _ => pmpAddr_acts n, List.forall_mem_nil _⟩

theorem userRows_act : ∀ row ∈ userRows, row.Acts := by
  simp only [userRows, List.forall_mem_cons]
  exact ⟨oneRow_acts fflags_acts, oneRow_acts frm_acts, oneRow_acts fcsr_acts, readRow_acts rfl readUserCount_frames,
    readRow_acts rfl readUserCount_frames, readRow_acts rfl readUserCount_frames,
    readRow_acts rfl readUserCounth_frames, readRow_acts rfl readUserCounth_frames,
    readRow_acts rfl readUserCounth_frames, List.forall_mem_nil _⟩

/-- Whatever entry a number has, on either build. -/
theorem accessorEntry_acts {c : Config} {n : BitVec 12} {e : Entry} (h : accessorEntry c n = some e) : e.Acts n := by
  obtain ⟨row, hrow, hbinds, rfl⟩ := row_of_accessorEntry c n e h
  suffices row.Acts from this c.xlen n hbinds
  unfold tableRows at hrow
  split at hrow
  · simp only [List.mem_append] at hrow
    obtain ((h | h) | h) | h := hrow
    · exact lowerRows_act row h
    · exact machineRows_act row h
    · exact counterRows_act row h
    · exact pmpRows_act c row h
  · exact userRows_act row hrow

/-- What an access can do, for every number, operand and state (R131, R137). -/
theorem accessRegister_effect (n : BitVec 12) (nv wm : Word) (s : State) :
    AccessEffect n s (accessRegister n nv wm s) := by
  obtain ⟨p, t, hcore, h⟩ | ⟨k, -, h⟩ := accessRegister_cases n nv wm s <;> rw [h]
  · unfold accessCore at hcore
    split at hcore
    · cases hcore
    · split at hcore
      · cases hcore
      · obtain ⟨hcfg, hx, hpc, hinbox, hlock, hbank⟩ :=
          accessorEntry_acts ‹_› _ _ s.clearOutput p t (trunc_fits _ _) hcore
        exact ⟨hcfg, hx, hpc, hinbox, hlock, hbank⟩
  · exact ⟨rfl, rfl, rfl, rfl, .inl rfl, (AccessEffect.refl n s).bank⟩

/-- An access has a result (R121). -/
theorem accessRegister_result (n : BitVec 12) (nv wm : Word) (s : State) :
    ∃ r, (accessRegister n nv wm s).result = some r := by
  obtain ⟨p, t, -, h⟩ | ⟨k, -, h⟩ := accessRegister_cases n nv wm s
  · exact ⟨.success p, by rw [h]⟩
  · exact ⟨.failure k, by rw [h]⟩

/-- Settles O9: the level, the configuration and the engine's registers are in no accessor's reach. -/
theorem callsLeaveTheRestAlone : Obligations.CallsLeaveTheRestAlone := by
  intro i n nv wm s hi
  obtain ⟨r, hr⟩ := accessRegister_result n nv wm s
  obtain ⟨hcfg, hx, hpc, hinbox, -, v, -, hbank⟩ := accessRegister_effect n nv wm s
  exact ⟨_, r, exec_of_encode_call s hi, hr, hbank.priv_eq, hcfg, hx, hpc, hinbox⟩

end Sys2Proof.Machine
end

section
/-! SUPPORT. Every step keeps the configuration and the machine invariant (R21, R23, R30 to R41, R76, R96). -/

namespace Sys2Proof.Machine

/-! ### The configuration (R23) -/

/-- A CSR instruction is an access whose result is retired: `rd` and the program counter, or the trap (R96, R300). -/
theorem csrInstruction_cases (csr : BitVec 12) (c : CallShape) (rd : BitVec 5) (s : State) :
    ∃ u, AccessEffect csr s u ∧ ((∃ p, csrInstruction csr c rd s = (u.writeX rd p).advancePc) ∨
      csrInstruction csr c rd s = illegalInstruction u) := by
  refine ⟨_, accessRegister_effect csr c.newValue c.writeMask s, ?_⟩
  obtain ⟨r, hr⟩ := accessRegister_result csr c.newValue c.writeMask s
  cases r with
  | success p => exact .inl ⟨p, retire_success _ rd p hr⟩
  | failure k => exact .inr (retire_failure _ rd k hr)

@[simp] theorem takeTrap_cfg (c : TrapCause) (tval : Word) (s : State) : (takeTrap c tval s).cfg = s.cfg := by
  rw [takeTrap_frame]

@[simp] theorem illegalInstruction_cfg (s : State) : (illegalInstruction s).cfg = s.cfg := takeTrap_cfg _ _ _

@[simp] theorem takeInterrupt_cfg (s : State) : (takeInterrupt s).cfg = s.cfg := by
  unfold takeInterrupt
  split
  · exact takeTrap_cfg _ _ _
  · rfl

@[simp] theorem controllerFinish_cfg (s : State) : (controllerFinish s).cfg = s.cfg := by
  obtain ⟨p, l, h, -⟩ := controllerFinish_eq s
  rw [h]

@[simp] theorem controllerBegin_cfg (m v : BitVec 32) (s : State) : (controllerBegin m v s).cfg = s.cfg :=
  controllerFinish_cfg s

@[simp] theorem trapPortWrite_cfg (w : TrapPortWrite) (s : State) : (trapPortWrite w s).cfg = s.cfg := by
  cases w <;> rfl

theorem csrInstruction_cfg (csr : BitVec 12) (c : CallShape) (rd : BitVec 5) (s : State) :
    (csrInstruction csr c rd s).cfg = s.cfg := by
  obtain ⟨u, hu, ⟨p, h⟩ | h⟩ := csrInstruction_cases csr c rd s <;> simp [h, hu.cfg]

/-- The port runs accesses and CSR instructions only, and neither reaches the configuration. -/
theorem runPort_cfg {p : PortWord} {s t : State} (h : runPort p s = .next t) : t.cfg = s.cfg := by
  obtain ⟨n, nv, wm, rfl⟩ | ⟨csr, c, rd, rfl⟩ := runPort_next h
  · exact (accessRegister_effect n nv wm s).cfg
  · exact csrInstruction_cfg csr c rd s

theorem runInput_cfg {i : Input} {s t : State} (h : runInput i s = .next t) : t.cfg = s.cfg := by
  cases i with
  | insn _ | call _ _ _ => exact runPort_cfg h
  | mret | sret =>
    simp only [runInput] at h
    split at h <;> cases h
    rfl
  | _ =>
    cases h
    simp [fpuSetFlags, threadReset]

/-- Settles O14: no input reaches the configuration, thread reset included. -/
theorem configurationNeverChanges : Obligations.ConfigurationNeverChanges := by
  intro s t h
  obtain rfl | ⟨i, rest, -, hi⟩ := step_next h
  · rfl
  · exact (runInput_cfg hi :)

/-! ### Widths of computed fields -/

theorem fits_mstatusSD (x : Xlen) : (mstatusSD x).fits x = true := by cases x <;> rfl

theorem fits_forceDirty {x : Xlen} {v : Word} (h : v.fits x = true) : (forceDirty v).fits x = true := by
  unfold forceDirty
  split
  · exact h
  · exact fits_or h (by cases x <;> rfl)

theorem fits_mstatusWritten {c : Config} {old v : Word} (ho : old.fits c.xlen = true) (hv : v.fits c.xlen = true) :
    (mstatusWritten c old v).fits c.xlen = true :=
  fits_setFlag _ (fits_forceDirty (fits_maskedWrite _ ho hv)) (fits_mstatusSD c.xlen)

theorem fits_vectorWritten {x : Xlen} {old v : Word} (ho : old.fits x = true) (hv : v.fits x = true) :
    (vectorWritten old v).fits x = true := by
  unfold vectorWritten
  split
  · exact fits_and_left _ hv
  · exact ho

theorem fits_setMpp {x : Xlen} {v : Word} (f : BitVec 2) (h : v.fits x = true) : (setMpp v f).fits x = true :=
  fits_or (fits_and_left _ h) (fits_and_right _ (by cases x <;> rfl))

theorem fits_mstatusTrapM {x : Xlen} {v : Word} (p : Priv) (h : v.fits x = true) : (mstatusTrapM v p).fits x = true :=
  fits_setMpp _ (fits_setFlag _ (fits_setFlag _ h (by cases x <;> rfl)) (by cases x <;> rfl))

theorem fits_mstatusTrapS {x : Xlen} {v : Word} (p : Priv) (h : v.fits x = true) : (mstatusTrapS v p).fits x = true :=
  fits_setFlag _ (fits_setFlag _ (fits_setFlag _ h (by cases x <;> rfl)) (by cases x <;> rfl)) (by cases x <;> rfl)

theorem fits_mstatusMret {x : Xlen} {v : Word} (c : Config) (h : v.fits x = true) : (mstatusMret c v).fits x = true :=
  fits_setMpp _ (fits_setFlag _ (fits_setFlag _ h (by cases x <;> rfl)) (by cases x <;> rfl))

theorem fits_mstatusSret {x : Xlen} {v : Word} (h : v.fits x = true) : (mstatusSret v).fits x = true :=
  fits_setFlag _ (fits_setFlag _ (fits_setFlag _ h (by cases x <;> rfl)) (by cases x <;> rfl)) (by cases x <;> rfl)

theorem fits_causeWord (x : Xlen) (c : TrapCause) : (c.word x).fits x = true := by
  cases c with
  | exception e => cases e <;> cases x <;> rfl
  | interrupt i => exact fits_or (fits_mstatusSD x) (by cases i <;> cases x <;> rfl)

/-! ### The bits that never become 1 (R35, R41) -/

theorem vectorWritten_and_three {old : Word} (v : Word) (h : old &&& 3 = 0) : vectorWritten old v &&& 3 = 0 := by
  unfold vectorWritten
  split
  · rw [BitVec.and_assoc]
    exact BitVec.and_zero
  · exact h

theorem and_and_not_self (v m : Word) : v &&& m &&& ~~~m = 0 := by
  rw [BitVec.and_assoc, BitVec.and_not_self]
  exact BitVec.and_zero

/-- A write of XLEN bits keeps the bank's fields XLEN bits wide (R21). -/
theorem BankWrite.keeps_bankFits {c : Config} {n : BitVec 12} {v : Word} {b b' : Bank} (h : BankWrite c n v b b')
    (hv : v.fits c.xlen = true) (hb : bankFits c.xlen b) : bankFits c.xlen b' := by
  cases h with
  | mstatus => simp [bankFits, hb, fits_mstatusWritten, hv]
  | sstatus => simp [bankFits, hb, fits_mstatusWritten, fits_maskedWrite, hv]
  | medeleg | mideleg | mie | sie => simp [bankFits, hb, fits_maskedWrite, hv]
  | mtvec | stvec => simp [bankFits, hb, fits_vectorWritten, hv]
  | sptbr => simp [bankFits, hb, fits_and_left, hv]
  | float m r f hn hm =>
    obtain rfl | ⟨-, rfl⟩ := hm
    · exact hb
    · simp [bankFits, hb, fits_or, show mstatusFS.fits c.xlen = true by cases c.xlen <;> rfl]
  | _ => simp [bankFits, hb, hv]

/-- No write reaches a bit that never becomes 1 (R174, R181, R182, R211). -/
theorem BankWrite.keeps_stuckBitsZero {c : Config} {n : BitVec 12} {v : Word} {b b' : Bank} (h : BankWrite c n v b b')
    (hb : stuckBitsZero c b) : stuckBitsZero c b' := by
  obtain ⟨hideleg, hedeleg, hie, hroot, hmtvec, hstvec⟩ := id hb
  cases h with
  | mideleg => exact ⟨(maskedWrite_outside _ _ _).trans hideleg, hedeleg, hie, hroot, hmtvec, hstvec⟩
  | medeleg => exact ⟨hideleg, (maskedWrite_outside _ _ _).trans hedeleg, hie, hroot, hmtvec, hstvec⟩
  | mie | sie => exact ⟨hideleg, hedeleg, (maskedWrite_outside _ _ _).trans hie, hroot, hmtvec, hstvec⟩
  | sptbr => exact ⟨hideleg, hedeleg, hie, and_and_not_self _ _, hmtvec, hstvec⟩
  | mtvec => exact ⟨hideleg, hedeleg, hie, hroot, vectorWritten_and_three _ hmtvec, hstvec⟩
  | stvec => exact ⟨hideleg, hedeleg, hie, hroot, hmtvec, vectorWritten_and_three _ hstvec⟩
  | _ => exact hb

/-! ### The machine invariant -/

/-- A bank and a program counter of the right widths keep the invariant; the fields that it does not name are any. -/
theorem machineInv_of_bank_pc {s : State} (h : machineInv s) {b : Bank} {p : Word} (hb : bankFits s.cfg.xlen b)
    (hst : stuckBitsZero s.cfg b) (hp : p.fits s.cfg.xlen = true) : machineInv { s with bank := b, pc := p } := by
  obtain ⟨hmisa, hhart, -, -, ⟨-, hx⟩, hlock⟩ := h
  exact ⟨hmisa, hhart, hb, hst, ⟨hp, hx⟩, hlock⟩

theorem AccessEffect.keeps_machineInv {n : BitVec 12} {s t : State} (ht : AccessEffect n s t) (h : machineInv s) :
    machineInv t := by
  obtain ⟨hcfg, hx, hpc, -, hl, v, hv, hw⟩ := ht
  obtain ⟨hmisa, hhart, hbank, hstuck, hengine, hlock⟩ := h
  unfold machineInv engineFits
  rw [hcfg, hx, hpc]
  refine ⟨hmisa, hhart, hw.keeps_bankFits (hv hbank) hbank, hw.keeps_stuckBitsZero hstuck, hengine, ?_⟩
  obtain hl | hl := hl
  · exact hl ▸ hlock
  · simp [hl]

theorem takeTrap_keeps_machineInv (c : TrapCause) (tval : Word) {s : State} (h : machineInv s) :
    machineInv (takeTrap c tval s) := by
  obtain ⟨-, -, hbank, hstuck, ⟨hpc, -⟩, -⟩ := id h
  cases hto : trapsToS s.bank c
  · rw [takeTrap_machine s c tval hto]
    refine machineInv_of_bank_pc h ?_ hstuck (by simp only [hbank])
    simp [bankFits, hbank, hpc, fits_causeWord, fits_mstatusTrapM]
  · rw [takeTrap_supervisor s c tval hto]
    refine machineInv_of_bank_pc h ?_ hstuck (by simp only [hbank])
    simp [bankFits, hbank, hpc, fits_causeWord, fits_mstatusTrapS]

theorem writeX_keeps_machineInv (r : BitVec 5) (v : Word) {s : State} (h : machineInv s) :
    machineInv (s.writeX r v) := by
  unfold State.writeX
  split
  · exact h
  · rename_i hr
    obtain ⟨hmisa, hhart, hbank, hstuck, ⟨hpc, hx, hx0⟩, hlock⟩ := h
    refine ⟨hmisa, hhart, hbank, hstuck, ⟨hpc, fun i => ?_, ?_⟩, hlock⟩
    · by_cases hi : r.toNat = i
      · simp [hi]
      · simpa [Vector.getElem_set_ne _ _ hi] using hx i
    · have hr : r.toNat ≠ 0 := fun h0 => hr (BitVec.eq_of_toNat_eq h0)
      simpa [Vector.getElem_set_ne _ _ hr] using hx0

theorem setPc_keeps_machineInv (v : Word) {s : State} (h : machineInv s) : machineInv (s.setPc v) := by
  obtain ⟨-, -, hbank, hstuck, -⟩ := id h
  exact machineInv_of_bank_pc h hbank hstuck (trunc_fits _ v)

theorem csrInstruction_keeps_machineInv (csr : BitVec 12) (c : CallShape) (rd : BitVec 5) {s : State}
    (h : machineInv s) : machineInv (csrInstruction csr c rd s) := by
  obtain ⟨u, hu, ⟨p, heq⟩ | heq⟩ := csrInstruction_cases csr c rd s <;> rw [heq]
  · exact setPc_keeps_machineInv _ (writeX_keeps_machineInv rd p (hu.keeps_machineInv h))
  · exact takeTrap_keeps_machineInv _ _ (s := u.drawn) (hu.keeps_machineInv h)

theorem takeInterrupt_keeps_machineInv {s : State} (h : machineInv s) : machineInv (takeInterrupt s) := by
  unfold takeInterrupt
  split
  · exact takeTrap_keeps_machineInv _ _ (s := s.drawn) h
  · exact h

theorem controllerFinish_keeps_machineInv {s : State} (h : machineInv s) : machineInv (controllerFinish s) := by
  obtain ⟨p, l, heq, hfree⟩ := controllerFinish_eq s
  obtain ⟨hmisa, hhart, hbank, hstuck, hengine, hlock⟩ := h
  rw [heq]
  refine ⟨hmisa, hhart, hbank, hstuck, hengine, ?_⟩
  simp [hfree hlock]

theorem controllerBegin_keeps_machineInv (m v : BitVec 32) {s : State} (h : machineInv s) :
    machineInv (controllerBegin m v s) := by
  obtain ⟨hmisa, hhart, hbank, hstuck, hengine, -⟩ := controllerFinish_keeps_machineInv h
  exact ⟨hmisa, hhart, hbank, hstuck, hengine, IrqLock.noConfusion⟩

theorem trapPortWrite_keeps_machineInv (w : TrapPortWrite) {s : State} (h : machineInv s) :
    machineInv (trapPortWrite w s) := by
  obtain ⟨-, -, hbank, hstuck, ⟨hpc, -⟩, -⟩ := id h
  cases w <;> exact machineInv_of_bank_pc h (by simp [bankFits, hbank]) hstuck hpc

theorem trapReturnM_keeps_machineInv {s : State} (h : machineInv s) : machineInv (trapReturnM s) := by
  obtain ⟨-, -, hbank, hstuck, -⟩ := id h
  refine machineInv_of_bank_pc (s := s.drawn) h ?_ hstuck (by simp [hbank])
  simp [bankFits, hbank, fits_mstatusMret]

theorem trapReturnS_keeps_machineInv {s : State} (h : machineInv s) : machineInv (trapReturnS s) := by
  obtain ⟨-, -, hbank, hstuck, -⟩ := id h
  refine machineInv_of_bank_pc h ?_ hstuck (by simp only [hbank])
  simp [bankFits, hbank, fits_mstatusSret]

theorem threadReset_keeps_machineInv {s : State} (h : machineInv s) : machineInv (threadReset s) := by
  obtain ⟨-, -, -, -, ⟨hpc, -⟩, -⟩ := id h
  refine machineInv_of_bank_pc h ?_ ?_ hpc
  · simp [bankFits, Bank.reset, Word.fits]
  · simp [stuckBitsZero, Bank.reset]

theorem runPort_keeps_machineInv {p : PortWord} {s t : State} (h : machineInv s) (hp : runPort p s = .next t) :
    machineInv t := by
  obtain ⟨n, nv, wm, rfl⟩ | ⟨csr, c, rd, rfl⟩ := runPort_next hp
  · exact (accessRegister_effect n nv wm s).keeps_machineInv h
  · exact csrInstruction_keeps_machineInv csr c rd h

theorem runInput_keeps_machineInv {i : Input} {s t : State} (h : machineInv s) (hi : runInput i s = .next t) :
    machineInv t := by
  have hclear : machineInv s.clearOutput := h
  cases i with
  | insn _ | call _ _ _ => exact runPort_keeps_machineInv h hi
  | mret =>
    simp only [runInput] at hi
    split at hi <;> cases hi
    exact trapReturnM_keeps_machineInv hclear
  | sret =>
    simp only [runInput] at hi
    split at hi <;> cases hi
    exact trapReturnS_keeps_machineInv hclear
  | controllerLock m v =>
    cases hi
    exact controllerBegin_keeps_machineInv m v hclear
  | controllerUnlock =>
    cases hi
    exact controllerFinish_keeps_machineInv hclear
  | fpuSetFlags f =>
    cases hi
    exact h
  | trapPort w =>
    cases hi
    exact trapPortWrite_keeps_machineInv w hclear
  | trapEntry c tval =>
    cases hi
    exact takeTrap_keeps_machineInv c tval hclear
  | pollInterrupts =>
    cases hi
    exact takeInterrupt_keeps_machineInv hclear
  | threadReset =>
    cases hi
    exact threadReset_keeps_machineInv hclear
  | setX r v =>
    cases hi
    exact writeX_keeps_machineInv r v hclear
  | setPc v =>
    cases hi
    exact setPc_keeps_machineInv v hclear

/-- Settles O15, input by input: an access by what `AccessEffect` leaves of the bank, every other input by its
operation. -/
theorem everyStepKeepsTheMachineInvariant : Obligations.EveryStepKeepsTheMachineInvariant := by
  intro s t hs h
  obtain rfl | ⟨i, rest, -, hi⟩ := step_next h
  · exact hs
  · exact runInput_keeps_machineInv (s := { s with inbox := rest }) hs hi

end Sys2Proof.Machine
end

section
/-! SUPPORT. What the accesses and the traps leave of the status word (R24 to R27, R165 to R169, R261, R309). -/

namespace Sys2Proof.Machine

/-! ### Bits outside a mask -/

theorem and_not_and_of_disjoint {mask k : Word} (v : Word) (h : mask &&& k = 0) : v &&& ~~~mask &&& k = v &&& k := by
  ext i hi
  have hbit : (mask[i] && k[i]) = false := by simpa using congrArg (·[i]) h
  simp only [BitVec.getElem_and, BitVec.getElem_not]
  cases hm : mask[i]
  · simp
  · simp_all

/-- Bits taken from inside a mask do not reach a disjoint one. -/
theorem or_and_and_of_disjoint {mask k : Word} (u v : Word) (h : mask &&& k = 0) :
    (u ||| v &&& mask) &&& k = u &&& k := by
  calc (u ||| v &&& mask) &&& k = u &&& k ||| v &&& (mask &&& k) := by
        rw [BitVec.and_or_distrib_right, BitVec.and_assoc]
    _ = u &&& k := by simp [h]

/-- A masked write leaves every bit outside its mask (R174). -/
theorem maskedWrite_and_of_disjoint {mask k : Word} (old v : Word) (h : mask &&& k = 0) :
    maskedWrite old v mask &&& k = old &&& k :=
  (or_and_and_of_disjoint _ v h).trans (and_not_and_of_disjoint old h)

/-- Setting or clearing the bits of a mask leaves every bit outside it. -/
theorem setFlag_and_of_disjoint {mask k : Word} (v : Word) (f : Bool) (h : mask &&& k = 0) :
    setFlag v mask f &&& k = v &&& k := by
  cases f
  · exact and_not_and_of_disjoint v h
  · have hset := or_and_and_of_disjoint v mask h
    rwa [BitVec.and_self] at hset

theorem or_and_cancel (v m : Word) : (v ||| m) &&& m = m := by
  ext i hi
  cases h : m[i] <;> simp [h]

theorem xor_and_eq_zero {a b k : Word} (h : a &&& k = b &&& k) : (a ^^^ b) &&& k = 0 := by
  ext i hi
  have hbit : (a[i] && k[i]) = (b[i] && k[i]) := by simpa using congrArg (·[i]) h
  simp only [BitVec.getElem_and, BitVec.getElem_xor]
  cases hk : k[i] <;> simp_all

/-! ### FS, XS and SD (R27) -/

/-- The bits that `statusNormal` reads. -/
def statusSummaryBits (x : Xlen) : Word := mstatusFS ||| mstatusXS ||| mstatusSD x

/-- `statusNormal` reads FS, XS and SD only. -/
theorem statusNormal_congr {x : Xlen} {v w : Word} (h : w &&& statusSummaryBits x = v &&& statusSummaryBits x) :
    statusNormal x w ↔ statusNormal x v := by
  have hpart : ∀ m : Word, statusSummaryBits x &&& m = m → w &&& m = v &&& m := by
    intro m hm
    calc w &&& m = w &&& statusSummaryBits x &&& m := by rw [BitVec.and_assoc, hm]
      _ = v &&& m := by rw [h, BitVec.and_assoc, hm]
  have hfs := hpart mstatusFS (by cases x <;> rfl)
  have hxs := hpart mstatusXS (by cases x <;> rfl)
  have hsd := hpart (mstatusSD x) (by cases x <;> rfl)
  simp only [statusNormal, hfs, hxs, hsd]

/-- A trap writes the interrupt enables and the previous level, none of which is in the summary (R309). -/
theorem mstatusTrapM_summary (x : Xlen) (v : Word) (p : Priv) :
    mstatusTrapM v p &&& statusSummaryBits x = v &&& statusSummaryBits x := by
  have hmpie : mstatusMPIE &&& statusSummaryBits x = 0 := by cases x <;> rfl
  have hmie : mstatusMIE &&& statusSummaryBits x = 0 := by cases x <;> rfl
  have hmpp : mstatusMPP &&& statusSummaryBits x = 0 := by cases x <;> rfl
  calc mstatusTrapM v p &&& statusSummaryBits x = _ := maskedWrite_and_of_disjoint _ _ hmpp
    _ = _ := setFlag_and_of_disjoint _ _ hmie
    _ = _ := setFlag_and_of_disjoint _ _ hmpie

theorem mstatusTrapS_summary (x : Xlen) (v : Word) (p : Priv) :
    mstatusTrapS v p &&& statusSummaryBits x = v &&& statusSummaryBits x := by
  have hspie : mstatusSPIE &&& statusSummaryBits x = 0 := by cases x <;> rfl
  have hsie : mstatusSIE &&& statusSummaryBits x = 0 := by cases x <;> rfl
  have hspp : mstatusSPP &&& statusSummaryBits x = 0 := by cases x <;> rfl
  calc mstatusTrapS v p &&& statusSummaryBits x = _ := setFlag_and_of_disjoint _ _ hspp
    _ = _ := setFlag_and_of_disjoint _ _ hsie
    _ = _ := setFlag_and_of_disjoint _ _ hspie

/-- R168: FS is Off, or is made Dirty. -/
theorem forceDirty_fs (v : Word) : forceDirty v &&& mstatusFS = 0 ∨ forceDirty v &&& mstatusFS = mstatusFS := by
  unfold forceDirty
  split
  · rename_i h
    exact .inl (by simpa [fsOff] using h)
  · exact .inr (or_and_cancel v mstatusFS)

/-- R169: the recomputed SD is set exactly when FS or XS is Dirty. -/
theorem setFlag_and_self_ne_zero {x : Xlen} (v : Word) (f : Bool) :
    setFlag v (mstatusSD x) f &&& mstatusSD x ≠ 0 ↔ f = true := by
  cases f
  · have h : setFlag v (mstatusSD x) false &&& mstatusSD x = 0 := by
      show v &&& ~~~mstatusSD x &&& mstatusSD x = 0
      rw [BitVec.and_assoc, BitVec.not_and_self]
      exact BitVec.and_zero
    simp [h]
  · have h : setFlag v (mstatusSD x) true &&& mstatusSD x = mstatusSD x := or_and_cancel v (mstatusSD x)
    rw [h]
    cases x <;> decide

/-- The write path leaves a normal status word, whatever it was and whatever is written (R168, R169). -/
theorem statusNormal_mstatusWritten (c : Config) (old val : Word) :
    statusNormal c.xlen (mstatusWritten c old val) := by
  suffices ∀ v, statusNormal c.xlen (recomputeSd c.xlen (forceDirty v)) from this _
  intro v
  have hfs : mstatusSD c.xlen &&& mstatusFS = 0 := by cases c.xlen <;> rfl
  have hxs : mstatusSD c.xlen &&& mstatusXS = 0 := by cases c.xlen <;> rfl
  unfold statusNormal recomputeSd
  rw [setFlag_and_of_disjoint _ _ hfs, setFlag_and_of_disjoint _ _ hxs, setFlag_and_self_ne_zero]
  exact ⟨forceDirty_fs v, by simp [fsDirty, xsDirty]⟩

/-- With FS Dirty already, the dirty mark of a floating-point write changes nothing (R261). -/
theorem or_mstatusFS_of_normal {x : Xlen} {v : Word} (h : statusNormal x v) (hon : fsOff v = false) :
    v ||| mstatusFS = v := by
  obtain ⟨hfs, -⟩ := h
  have hdirty : v &&& mstatusFS = mstatusFS := hfs.resolve_left (by simpa [fsOff] using hon)
  calc v ||| mstatusFS = v ||| (v &&& mstatusFS) := by rw [hdirty]
    _ = v := by
      ext i hi
      cases h : v[i] <;> simp [h]

theorem BankWrite.keeps_statusNormal {c : Config} {n : BitVec 12} {v : Word} {b b' : Bank} (h : BankWrite c n v b b')
    (hb : statusNormal c.xlen b.mstatus) : statusNormal c.xlen b'.mstatus := by
  cases h with
  | mstatus | sstatus => exact statusNormal_mstatusWritten _ _ _
  | float m r f hn hm =>
    obtain rfl | ⟨hon, rfl⟩ := hm
    · exact hb
    · exact (or_mstatusFS_of_normal hb hon).symm ▸ hb
  | _ => exact hb

theorem takeTrap_keeps_statusNormal (c : TrapCause) (tval : Word) {x : Xlen} {s : State}
    (h : statusNormal x s.bank.mstatus) : statusNormal x (takeTrap c tval s).bank.mstatus := by
  cases hto : trapsToS s.bank c
  · rw [takeTrap_machine s c tval hto]
    exact (statusNormal_congr (mstatusTrapM_summary x _ _)).mpr h
  · rw [takeTrap_supervisor s c tval hto]
    exact (statusNormal_congr (mstatusTrapS_summary x _ _)).mpr h

theorem AccessEffect.keeps_statusNormal {n : BitVec 12} {s t : State} (ht : AccessEffect n s t)
    (h : statusNormal s.cfg.xlen s.bank.mstatus) : statusNormal s.cfg.xlen t.bank.mstatus := by
  obtain ⟨v, -, hw⟩ := ht.bank
  exact hw.keeps_statusNormal h

theorem csrInstruction_keeps_statusNormal (csr : BitVec 12) (c : CallShape) (rd : BitVec 5) {s : State}
    (h : statusNormal s.cfg.xlen s.bank.mstatus) :
    statusNormal s.cfg.xlen (csrInstruction csr c rd s).bank.mstatus := by
  obtain ⟨u, hu, ⟨p, heq⟩ | heq⟩ := csrInstruction_cases csr c rd s <;> rw [heq]
  · rw [advancePc_bank, writeX_bank]
    exact hu.keeps_statusNormal h
  · exact takeTrap_keeps_statusNormal _ _ (s := u.drawn) (hu.keeps_statusNormal h)

/-- Settles O17: the write path makes the word normal, the dirty mark finds FS Dirty already, and a trap writes neither
FS, XS nor SD. -/
theorem statusWordStaysNormal : Obligations.StatusWordStaysNormal := by
  intro i s t hs h
  obtain ⟨n, nv, wm, -, hx⟩ | ⟨-, csr, c, rd, -, hx⟩ := exec_cases i s <;> cases hx.symm.trans h
  · rw [(accessRegister_effect n nv wm s).cfg]
    exact (accessRegister_effect n nv wm s).keeps_statusNormal hs
  · rw [csrInstruction_cfg]
    exact csrInstruction_keeps_statusNormal csr c rd hs

/-! ### The read-only bits (R24, R166) -/

/-- The bits of the status word that an access can change: the widest write mask of R166 for the version, and SD. -/
def statusWritable (c : Config) : Word :=
  mstatusSD c.xlen ||| match c.privVer with
    | .v1_9_1 => wmaskBase ||| mstatusVM
    | .v1_10_0 => wmaskBase

theorem mstatusSD_writable (c : Config) : mstatusSD c.xlen &&& ~~~statusWritable c = 0 := by
  unfold statusWritable
  cases c.xlen <;> cases c.privVer <;> rfl

theorem mstatusFS_writable (c : Config) : mstatusFS &&& ~~~statusWritable c = 0 := by
  unfold statusWritable
  cases c.xlen <;> cases c.privVer <;> rfl

theorem wmask_writable (c : Config) (val : Word) : wmask c val &&& ~~~statusWritable c = 0 := by
  unfold wmask statusWritable
  cases c.privVer with
  | v1_10_0 =>
    show wmaskBase &&& ~~~(mstatusSD c.xlen ||| wmaskBase) = 0
    cases c.xlen <;> rfl
  | v1_9_1 => cases validateVm c (vmField val) <;> cases c.xlen <;> rfl

theorem mstatusWriteMask_writable (c : Config) (val : Word) : mstatusWriteMask c val &&& ~~~statusWritable c = 0 := by
  unfold mstatusWriteMask
  split
  · rw [BitVec.and_assoc, BitVec.and_comm (~~~mstatusMPP), ← BitVec.and_assoc, wmask_writable]
    exact BitVec.zero_and
  · exact wmask_writable c val

theorem forceDirty_readOnly (c : Config) (v : Word) :
    forceDirty v &&& ~~~statusWritable c = v &&& ~~~statusWritable c := by
  unfold forceDirty
  split
  · rfl
  · exact setFlag_and_of_disjoint v true (mstatusFS_writable c)

theorem mstatusWritten_readOnly (c : Config) (old val : Word) :
    mstatusWritten c old val &&& ~~~statusWritable c = old &&& ~~~statusWritable c :=
  calc mstatusWritten c old val &&& ~~~statusWritable c = _ := setFlag_and_of_disjoint _ _ (mstatusSD_writable c)
    _ = _ := forceDirty_readOnly c _
    _ = _ := maskedWrite_and_of_disjoint old val (mstatusWriteMask_writable c val)

theorem BankWrite.status_readOnly {c : Config} {n : BitVec 12} {v : Word} {b b' : Bank} (h : BankWrite c n v b b') :
    b'.mstatus &&& ~~~statusWritable c = b.mstatus &&& ~~~statusWritable c := by
  cases h with
  | mstatus => exact mstatusWritten_readOnly c _ _
  | sstatus => exact mstatusWritten_readOnly c _ _
  | float m r f hn hm =>
    obtain rfl | ⟨-, rfl⟩ := hm
    · rfl
    · exact setFlag_and_of_disjoint _ true (mstatusFS_writable c)
  | _ => rfl

/-- Settles O18: of the status word an access writes at most `statusWritable`. -/
theorem readOnlyStatusBitsStay : Obligations.ReadOnlyStatusBitsStay := by
  intro i n nv wm s t hi h
  cases (exec_of_encode_call s hi).symm.trans h
  obtain ⟨v, -, hw⟩ := (accessRegister_effect n nv wm s).bank
  have hbits := xor_and_eq_zero hw.status_readOnly
  unfold statusWritable at hbits
  cases hv : s.cfg.privVer <;> rw [hv] at hbits <;> exact hbits

/-! ### Inputs of the floating-point unit and the engine (R43, R47) -/

/-- Settles O58: each of the three inputs is its one operation on the state without an output. -/
theorem engineAndFloatUnitInputs : Obligations.EngineAndFloatUnitInputs := by
  refine ⟨fun s f rest h => ?_, fun s r v rest h => ?_, fun s v rest h => ?_⟩ <;>
    simp only [step, runNext, h, runInput]
  · rfl
  · by_cases hr : r = 0
    · simp only [State.writeX, if_pos hr]
      rfl
    · simp only [State.writeX, if_neg hr]
      rfl
  · rfl

end Sys2Proof.Machine
end

section
/-! SUPPORT. The interrupt lock: what an access of the pending word does, and the controller's update before it (R76, R77,
R139, R179, R180). -/

namespace Sys2Proof.Machine

/-! ### The controller's update (R76, R139) -/

theorem controllerFinish_controller {s : State} {m v : BitVec 32} (h : s.irqLock = .heldByController m v) :
    controllerFinish s = { updateMip m v s with irqLock := .free } := by
  simp [controllerFinish, h]

/-- On a free lock the controller has nothing to finish. -/
theorem controllerFinish_of_free {s : State} (h : s.irqLock = .free) : controllerFinish s = s := by
  simp [controllerFinish, h]

/-- An update of the controller is made once. -/
@[simp] theorem controllerFinish_controllerFinish (s : State) :
    controllerFinish (controllerFinish s) = controllerFinish s := by
  cases h : s.irqLock with
  | free => simp only [controllerFinish_of_free h]
  | heldByHart => simp [controllerFinish, h]
  | heldByController m v => exact controllerFinish_of_free (by rw [controllerFinish_controller h])

theorem controllerFinish_clearOutput (s : State) :
    (controllerFinish s).clearOutput = controllerFinish s.clearOutput := by
  cases h : s.irqLock with
  | free => rw [controllerFinish_of_free h, controllerFinish_of_free (s := s.clearOutput) h]
  | heldByHart => simp [controllerFinish, h]
  | heldByController m v =>
    rw [controllerFinish_controller h, controllerFinish_controller (s := s.clearOutput) h]
    rfl

/-- The lock is taken on the same state whether the controller has finished or is made to finish (R139). -/
theorem lockIrq_controllerFinish (s : State) : lockIrq (controllerFinish s) = lockIrq s := by
  simp only [lockIrq, controllerFinish_controllerFinish]

/-! ### The pending word (R179, R180) -/

/-- Of the writable bits SSIP and STIP remain (R31, R179). -/
theorem mipWritable_of_recorded {c : Config} (h : c.hasRecordedValues = true) (wm : Word) :
    mipWritable c wm = wm &&& 0x22 := by
  have hint : c.delegInt = 0x222 := by
    simp only [Config.hasRecordedValues, Bool.and_eq_true, beq_iff_eq] at h
    simp only [h]
  rw [mipWritable, hint, BitVec.and_assoc]
  rfl

/-- With no writable bit the pending word is read without the lock (R77, R179). -/
theorem rmwMip_unlocked (n : BitVec 12) (nv : Word) {wm : Word} {s : State} (h : mipWritable s.cfg wm = 0) :
    rmwMip n nv wm s = .ok (s.bank.mip.setWidth 64, s.emit .readPending) := by
  simp [rmwMip, h, readPending]

/-- With a writable bit the access takes the lock first, so it succeeds alike before and after the controller's update
(R139, R179). -/
theorem rmwMip_locked (n : BitVec 12) (nv : Word) {wm : Word} {s : State} (h : mipWritable s.cfg wm ≠ 0) :
    ∃ p t, rmwMip n nv wm s = .ok (p, t) ∧ rmwMip n nv wm (controllerFinish s) = .ok (p, t) := by
  refine ⟨_, _, by simp only [rmwMip, if_neg h]; rfl, ?_⟩
  simp only [rmwMip, controllerFinish_cfg, if_neg h, lockIrq_controllerFinish]

/-! ### Accesses of `mip` and `sip` -/

/-- A number that can be written passes gating at its own level and above (R122). -/
theorem gateDenies_of_reaches {n : BitVec 12} {p : Priv} {s : State} (wm : Word) (h : reaches s p)
    (hp : requiredPrivilege n = p.code) (hw : isReadOnly n = false) : gateDenies n wm s = false :=
  (gateDenies_eq_false_iff n wm s).mpr fun _ => ⟨.inr hw, hp ▸ h.2⟩

/-- At M an access of 0x344 is `rmw_mip` (R179). -/
theorem accessCore_mip (nv wm : Word) {s : State} (h : reaches s .m) :
    accessCore 0x344 nv wm s = rmwMip 0x344 nv wm s :=
  accessCore_entry _ nv wm s _ (gateDenies_of_reaches wm h rfl rfl) (entry_mip _ h.1)

/-- At S or M an access of 0x144 is `rmw_mip` with the mask cut to `mideleg` (R180). -/
theorem accessCore_sip (nv wm : Word) {s : State} (h : reaches s .s) :
    accessCore 0x144 nv wm s = rmwMip 0x144 nv (wm &&& s.bank.mideleg) s :=
  accessCore_entry _ nv wm s _ (gateDenies_of_reaches wm h rfl rfl) (entry_sip _ h.1)

section Pending

variable {n : BitVec 12} {nv wm m : Word} {s s' : State}

/-- A locked access gives the same state when the controller has made its update as when it is still to make it (R139). -/
theorem accessRegister_after_controller
    (h : accessCore n (s.cfg.xlen.trunc nv) (s.cfg.xlen.trunc wm) s.clearOutput =
      rmwMip n (s.cfg.xlen.trunc nv) m s.clearOutput)
    (h' : accessCore n (s.cfg.xlen.trunc nv) (s.cfg.xlen.trunc wm) s'.clearOutput =
      rmwMip n (s.cfg.xlen.trunc nv) m s'.clearOutput)
    (hs' : s' = controllerFinish s) (hm : mipWritable s.cfg m ≠ 0) :
    accessRegister n nv wm s = accessRegister n nv wm s' := by
  obtain ⟨p, t, hlocked, hfinished⟩ := rmwMip_locked n (s.cfg.xlen.trunc nv) (s := s.clearOutput) hm
  subst hs'
  rw [← controllerFinish_clearOutput] at hfinished
  rw [accessRegister_ok n nv wm s p t (h.trans hlocked), accessRegister_ok n nv wm (controllerFinish s) p t]
  rw [controllerFinish_cfg]
  exact h'.trans hfinished

/-- A lock-free access returns the pending word as it stands, whoever holds the lock (R77). -/
theorem accessRegister_readPending
    (h : accessCore n (s.cfg.xlen.trunc nv) (s.cfg.xlen.trunc wm) s.clearOutput =
      rmwMip n (s.cfg.xlen.trunc nv) m s.clearOutput) (hm : mipWritable s.cfg m = 0) :
    accessRegister n nv wm s = accessDone s (s.bank.mip.setWidth 64) s.bank [.readPending] :=
  accessRegister_ok n nv wm s _ _ (h.trans (rmwMip_unlocked n _ hm))

end Pending

/-- Settles O30: both numbers are `rmw_mip` under the mask of R179, cut to `mideleg` for sip, and `Lock()` makes the
controller's update. -/
theorem controllerUpdateComesFirst : Obligations.ControllerUpdateComesFirst := by
  refine ⟨fun s nv wm cm cv hr hc hl => ?_, fun s nv wm cm cv hr hc hl => ?_⟩ <;>
    rw [← mipWritable_of_recorded ((isThisHardware_iff s.cfg).mp hc).2]
  · have hcore := accessCore_mip (s.cfg.xlen.trunc nv) (s.cfg.xlen.trunc wm) (s := s.clearOutput) hr
    refine ⟨fun hm => congrArg Host.Outcome.next ?_, fun hm => congrArg Host.Outcome.next ?_⟩
    · exact accessRegister_after_controller hcore (accessCore_mip _ _ hr) (controllerFinish_controller hl).symm hm
    · exact accessRegister_readPending hcore hm
  · have hcore := accessCore_sip (s.cfg.xlen.trunc nv) (s.cfg.xlen.trunc wm) (s := s.clearOutput) hr
    refine ⟨fun hm => congrArg Host.Outcome.next ?_, fun hm => congrArg Host.Outcome.next ?_⟩
    · exact accessRegister_after_controller hcore (accessCore_sip _ _ hr) (controllerFinish_controller hl).symm hm
    · exact accessRegister_readPending hcore hm

end Sys2Proof.Machine
end

section
/-! SUPPORT. The `Invalidate()` calls of an access (R87, R170, R173, R211). -/

namespace Sys2Proof.Machine

/-- The `Invalidate()` calls among the events that stand. -/
def invalidations (s : State) : Nat := s.events.count .invalidate

/-- How often an access of the number `n` may call `Invalidate()`: once at mstatus, sstatus and satp, else never (R87). -/
def invalidateBudget (n : BitVec 12) : Nat := if n = 0x300 ∨ n = 0x100 ∨ n = 0x180 then 1 else 0

@[simp] theorem invalidations_setBank (s : State) (b : Bank) : invalidations (s.setBank b) = invalidations s := by rfl

theorem invalidations_invalidate (s : State) : invalidations (invalidate s) = invalidations s + 1 := by
  simp [invalidations]

/-- The calls of any other collaborator do not count. -/
theorem invalidations_emit (s : State) {e : Event} (h : e ≠ .invalidate) :
    invalidations (s.emit e) = invalidations s := by
  simp [invalidations, h]

theorem invalidations_controllerFinish (s : State) : invalidations (controllerFinish s) = invalidations s := by
  obtain ⟨p, l, h, -⟩ := controllerFinish_eq s
  rw [h]
  rfl

/-- R170: the write path of the status word invalidates once, or not at all. -/
theorem invalidations_writeMstatus (v : Word) (s : State) :
    invalidations (writeMstatus v s) ≤ invalidations s + 1 := by
  unfold invalidations
  rw [writeMstatus_events]
  split <;> simp

/-- R211: a store into the translation root invalidates once when it changes the root, else not at all. -/
theorem invalidations_writeSatp {n : BitVec 12} {v : Word} {s t : State} (h : writeSatp n v s = .ok t) :
    invalidations t ≤ invalidations s + 1 := by
  unfold writeSatp at h
  split at h
  · split at h <;> cases h
    · unfold storeSptbr
      split
      · exact Nat.le_succ _
      · exact (invalidations_invalidate s).le
    · unfold storeSatp
      split
      · exact (invalidations_invalidate s).le
      · exact Nat.le_succ _
  · cases h
    exact Nat.le_succ _

/-! ### Entries -/

/-- An access through the entry never calls `Invalidate()`. -/
def Entry.Quiet (e : Entry) : Prop :=
  ∀ n nv wm s p t, e.run n nv wm s = .ok (p, t) → invalidations t = invalidations s

/-- At every number that the row binds, its entry calls `Invalidate()` no more often than R87 allows. -/
def TableRow.KeepsBudget (row : TableRow) : Prop :=
  ∀ x n, row.binds x n.toNat = true → ∀ nv wm s p t, row.entry.run n nv wm s = .ok (p, t) →
    invalidations t ≤ invalidations s + invalidateBudget n

/-- A quiet entry is within every number's budget. -/
theorem keepsBudget_of_quiet {row : TableRow} (h : row.entry.Quiet) : row.KeepsBudget :=
  fun _ n _ nv wm s p t hrun => (h n nv wm s p t hrun).le.trans (Nat.le_add_right _ _)

/-- R127 to R130: a plain access that succeeds has read, and then written or not. -/
theorem plainAccess_ok {r : BitVec 12 → State → Except CsrError (Word × State)}
    {w : BitVec 12 → Word → State → Except CsrError State} {n : BitVec 12} {nv wm p : Word} {s t : State}
    (h : plainAccess r w n nv wm s = .ok (p, t)) :
    ∃ u, r n s = .ok (p, u) ∧ (t = u ∨ w n (merge p nv wm) u = .ok t) := by
  unfold plainAccess at h
  split at h
  · cases h
  · split at h
    · cases h
      exact ⟨_, ‹_›, .inl rfl⟩
    · split at h
      · cases h
      · cases h
        exact ⟨_, ‹_›, .inr ‹_›⟩

section Accessors

variable {r : BitVec 12 → State → Except CsrError (Word × State)}
  {w : BitVec 12 → Word → State → Except CsrError State}

/-- The row of a number that may invalidate, whose read leaves the state as it is. -/
theorem oneRow_keepsBudget {k : Nat} (hk : invalidateBudget (BitVec.ofNat 12 k) = 1)
    (hr : ∀ n s, ∃ p, r n s = .ok (p, s))
    (hw : ∀ n v s t, w n v s = .ok t → invalidations t ≤ invalidations s + 1) :
    (oneRow k (.readWrite r w)).KeepsBudget := by
  intro x n hn nv wm s p t h
  simp only [oneRow, TableRow.binds, Bool.and_eq_true] at hn
  obtain ⟨⟨hlow, hhigh⟩, -⟩ := hn
  have hnk : n.toNat = k := Nat.le_antisymm (of_decide_eq_true hhigh) (of_decide_eq_true hlow)
  rw [← hnk, BitVec.ofNat_toNat, BitVec.setWidth_eq] at hk
  rw [hk]
  obtain ⟨u, hread, hwrite⟩ := plainAccess_ok h
  obtain ⟨q, hq⟩ := hr n s
  cases hq.symm.trans hread
  obtain rfl | hwrite := hwrite
  · exact Nat.le_succ _
  · exact hw _ _ _ _ hwrite

theorem read_quiet (hr : ∀ n s p t, r n s = .ok (p, t) → invalidations t = invalidations s) :
    (Entry.read r).Quiet :=
  fun n _ _ => hr n

theorem readWrite_quiet (hr : (Entry.read r).Quiet)
    (hw : ∀ n v s t, w n v s = .ok t → invalidations t = invalidations s) : (Entry.readWrite r w).Quiet := by
  intro n nv wm s p t h
  obtain ⟨u, hread, hwrite⟩ := plainAccess_ok h
  have hu := hr n nv wm s p u hread
  obtain rfl | hwrite := hwrite
  · exact hu
  · exact (hw _ _ _ _ hwrite).trans hu

/-- A read accessor that fails or leaves the state as it is. -/
theorem pureRead_quiet (hr : ∀ n s, (∃ p, r n s = .ok (p, s)) ∨ ∃ k, r n s = .error k) : (Entry.read r).Quiet := by
  intro n _ _ s p t h
  obtain ⟨q, hq⟩ | ⟨k, hk⟩ := hr n s
  · cases hq.symm.trans h
    rfl
  · cases hk.symm.trans h

/-- The entry of a field of the bank: unless it fails, its read leaves the state as it is and its write replaces the
bank (R150, R159, R174, R181, R260). -/
theorem fieldEntry_quiet (hr : ∀ n s, (∃ p, r n s = .ok (p, s)) ∨ ∃ k, r n s = .error k)
    (hw : ∀ n v s, (∃ b, w n v s = .ok (s.setBank b)) ∨ ∃ k, w n v s = .error k) : (Entry.readWrite r w).Quiet := by
  refine readWrite_quiet (pureRead_quiet hr) (fun n v s t h => ?_)
  obtain ⟨b, hb⟩ | ⟨k, hk⟩ := hw n v s
  · cases hb.symm.trans h
    exact invalidations_setBank s b
  · cases hk.symm.trans h

/-- The entry of a field that both versions have: neither accessor fails. -/
theorem plainField_quiet (hr : ∀ n s, ∃ p, r n s = .ok (p, s)) (hw : ∀ n v s, ∃ b, w n v s = .ok (s.setBank b)) :
    (Entry.readWrite r w).Quiet :=
  fieldEntry_quiet (fun n s => .inl (hr n s)) (fun n v s => .inl (hw n v s))

end Accessors

/-- R160. -/
theorem mcounteren_quiet : (Entry.readWrite readMcounteren writeMcounteren).Quiet :=
  fieldEntry_quiet (fun _ s => by cases h : s.cfg.privVer <;> simp [readMcounteren, h])
    (fun _ _ s => by cases h : s.cfg.privVer <;> simp [writeMcounteren, h])

/-- R161. -/
theorem scounteren_quiet : (Entry.readWrite readScounteren writeScounteren).Quiet :=
  fieldEntry_quiet (fun _ s => by cases h : s.cfg.privVer <;> simp [readScounteren, h])
    (fun _ _ s => by cases h : s.cfg.privVer <;> simp [writeScounteren, h])

/-- R162. -/
theorem mucounteren_quiet : (Entry.readWrite readMucounteren writeMucounteren).Quiet :=
  fieldEntry_quiet (fun _ s => by cases h : s.cfg.privVer <;> simp [readMucounteren, h])
    (fun _ _ s => by cases h : s.cfg.privVer <;> simp [writeMucounteren, h])

/-- R163. -/
theorem mscounteren_quiet : (Entry.readWrite readMscounteren writeMscounteren).Quiet :=
  fieldEntry_quiet (fun _ s => by cases h : s.cfg.privVer <;> simp [readMscounteren, h])
    (fun _ _ s => by cases h : s.cfg.privVer <;> simp [writeMscounteren, h])

/-- Of the dirty mark and a later update of the bank the later one stands. -/
@[simp] theorem markDirty_setBank (s : State) (b : Bank) : (markDirty s).setBank b = s.setBank b := by
  unfold markDirty
  split <;> rfl

/-- R262. -/
theorem fflags_quiet : (Entry.readWrite readFflags writeFflags).Quiet :=
  fieldEntry_quiet (fun _ s => by cases h : fpDenied s <;> simp [readFflags, h])
    (fun _ _ s => by cases h : fpDenied s <;> simp [writeFflags, h])

/-- R263. -/
theorem frm_quiet : (Entry.readWrite readFrm writeFrm).Quiet :=
  fieldEntry_quiet (fun _ s => by cases h : fpDenied s <;> simp [readFrm, h])
    (fun _ _ s => by cases h : fpDenied s <;> simp [writeFrm, h])

/-- R264. -/
theorem fcsr_quiet : (Entry.readWrite readFcsr writeFcsr).Quiet :=
  fieldEntry_quiet (fun _ s => by cases h : fpDenied s <;> simp [readFcsr, h])
    (fun _ _ s => by cases h : fpDenied s <;> simp [writeFcsr, h])

/-- R214. -/
theorem pmpCfg_quiet : (Entry.readWrite readPmpCfg writePmpCfg).Quiet :=
  readWrite_quiet
    (read_quiet fun _ s _ _ h => by cases h; exact invalidations_emit s.drawn Event.noConfusion)
    (fun _ _ s _ h => by cases h; exact invalidations_emit s Event.noConfusion)

/-- R215. -/
theorem pmpAddr_quiet : (Entry.readWrite readPmpAddr writePmpAddr).Quiet :=
  readWrite_quiet
    (read_quiet fun _ s _ _ h => by cases h; exact invalidations_emit s.drawn Event.noConfusion)
    (fun _ _ s _ h => by cases h; exact invalidations_emit s Event.noConfusion)

theorem invalidations_currentCount (s : State) : invalidations (currentCount s).2 = invalidations s := by
  simp [invalidations]

theorem readUserCount_quiet : (Entry.read readUserCount).Quiet :=
  read_quiet fun _ s _ _ h => by cases h; exact invalidations_currentCount s

theorem readUserCounth_quiet : (Entry.read readUserCounth).Quiet :=
  read_quiet fun _ s _ _ h => by cases h; exact invalidations_currentCount s

/-- R241: past the counter check. -/
theorem readGatedCount_quiet : (Entry.read readGatedCount).Quiet :=
  read_quiet fun _ s _ _ h => by
    unfold readGatedCount at h
    split at h <;> cases h
    exact invalidations_currentCount s

/-- R243: past the counter check. -/
theorem readGatedCounth_quiet : (Entry.read readGatedCounth).Quiet :=
  read_quiet fun _ s _ _ h => by
    unfold readGatedCounth at h
    split at h <;> cases h
    exact invalidations_currentCount s

theorem readGatedZero_quiet : (Entry.read readGatedZero).Quiet :=
  pureRead_quiet fun n s => by cases h : counterDenied n s <;> simp [readGatedZero, h]

theorem readZero_quiet : (Entry.read readZero).Quiet := pureRead_quiet fun _ _ => .inl ⟨_, rfl⟩

/-- R179: the calls are of the lock and the pending word. -/
theorem rmwMip_quiet : (Entry.combinedRmw rmwMip).Quiet := by
  intro n nv wm s p t h
  simp only [run_combined, rmwMip] at h
  split at h <;> cases h
  · exact invalidations_emit s Event.noConfusion
  · calc
      _ = invalidations (lockIrq s) :=
        (invalidations_emit _ Event.noConfusion).trans (invalidations_emit (lockIrq s) Event.noConfusion)
      _ = invalidations (controllerFinish s) := invalidations_emit (controllerFinish s) Event.noConfusion
      _ = invalidations s := invalidations_controllerFinish s

/-- R180. -/
theorem rmwSip_quiet : (Entry.combinedRmw rmwSip).Quiet :=
  fun n nv wm s => rmwMip_quiet n nv (wm &&& s.bank.mideleg) s

/-! ### The table (R99, R141) -/

/-- The rows of levels U and S, of which sstatus and satp may invalidate. -/
theorem lowerRows_keepBudget : ∀ row ∈ lowerRows, row.KeepsBudget := by
  simp only [lowerRows, List.forall_mem_cons]
  refine ⟨keepsBudget_of_quiet fflags_quiet, keepsBudget_of_quiet frm_quiet, keepsBudget_of_quiet fcsr_quiet,
    oneRow_keepsBudget rfl (fun _ _ => ⟨_, rfl⟩) (fun _ v s t h => ?sstatus),
    keepsBudget_of_quiet ?_, keepsBudget_of_quiet ?_, keepsBudget_of_quiet scounteren_quiet, keepsBudget_of_quiet ?_,
    keepsBudget_of_quiet ?_, keepsBudget_of_quiet ?_, keepsBudget_of_quiet ?_, keepsBudget_of_quiet rmwSip_quiet,
    oneRow_keepsBudget rfl (fun _ s => ?satp) (fun _ v s t h => invalidations_writeSatp h), List.forall_mem_nil _⟩
  case sstatus =>
    cases h
    exact invalidations_writeMstatus _ s
  case satp => cases hm : s.cfg.hasMmu <;> cases hv : s.cfg.privVer <;> simp [readSatp, hm, hv]
  -- The rows left are fields of the bank that no version and no mode gates.
  all_goals exact plainField_quiet (fun _ _ => ⟨_, rfl⟩) (fun _ _ _ => ⟨_, rfl⟩)

/-- The machine-level rows, of which mstatus may invalidate. -/
theorem machineRows_keepBudget : ∀ row ∈ machineRows, row.KeepsBudget := by
  simp only [machineRows, List.forall_mem_cons]
  refine ⟨oneRow_keepsBudget rfl (fun _ _ => ⟨_, rfl⟩) (fun _ v s t h => ?mstatus),
    keepsBudget_of_quiet (pureRead_quiet fun _ _ => .inl ⟨_, rfl⟩), keepsBudget_of_quiet ?_, keepsBudget_of_quiet ?_,
    keepsBudget_of_quiet ?_, keepsBudget_of_quiet ?_, keepsBudget_of_quiet mcounteren_quiet,
    keepsBudget_of_quiet mucounteren_quiet, keepsBudget_of_quiet mscounteren_quiet,
    keepsBudget_of_quiet readZero_quiet, keepsBudget_of_quiet ?_, keepsBudget_of_quiet ?_, keepsBudget_of_quiet ?_,
    keepsBudget_of_quiet ?_, keepsBudget_of_quiet rmwMip_quiet, List.forall_mem_nil _⟩
  case mstatus =>
    cases h
    exact invalidations_writeMstatus _ s
  -- The rows left are fields of the bank that no version and no mode gates.
  all_goals exact plainField_quiet (fun _ _ => ⟨_, rfl⟩) (fun _ _ _ => ⟨_, rfl⟩)

/-- No counter and no identification register invalidates. -/
theorem counterRows_quiet : ∀ row ∈ counterRows, row.entry.Quiet := by
  simp only [counterRows, List.forall_mem_cons]
  exact ⟨readGatedCount_quiet, readGatedCount_quiet, readZero_quiet, readGatedCounth_quiet, readGatedCounth_quiet,
    readZero_quiet, readGatedCount_quiet, readGatedCount_quiet, readGatedZero_quiet, readGatedCounth_quiet,
    readGatedCounth_quiet, readGatedZero_quiet, readZero_quiet, readZero_quiet, readZero_quiet,
    pureRead_quiet fun _ _ => .inl ⟨_, rfl⟩, List.forall_mem_nil _⟩

theorem pmpRows_quiet (c : Config) : ∀ row ∈ pmpRows c, row.entry.Quiet := by
  simp only [pmpRows, List.forall_mem_cons]
  exact ⟨pmpCfg_quiet, pmpAddr_quiet, List.forall_mem_nil _⟩

theorem userRows_quiet : ∀ row ∈ userRows, row.entry.Quiet := by
  simp only [userRows, List.forall_mem_cons]
  exact ⟨fflags_quiet, frm_quiet, fcsr_quiet, readUserCount_quiet, readUserCount_quiet, readUserCount_quiet,
    readUserCounth_quiet, readUserCounth_quiet, readUserCounth_quiet, List.forall_mem_nil _⟩

theorem tableRows_keepBudget (c : Config) : ∀ row ∈ tableRows c, row.KeepsBudget := by
  intro row hrow
  unfold tableRows at hrow
  split at hrow
  · simp only [List.mem_append] at hrow
    obtain ((h | h) | h) | h := hrow
    · exact lowerRows_keepBudget row h
    · exact machineRows_keepBudget row h
    · exact keepsBudget_of_quiet (counterRows_quiet row h)
    · exact keepsBudget_of_quiet (pmpRows_quiet c row h)
  · exact keepsBudget_of_quiet (userRows_quiet row hrow)

/-! ### Accesses -/

/-- An access that succeeds was answered by a row of the table that binds its number (R126, R131). -/
theorem row_of_accessCore_ok {n : BitVec 12} {nv wm p : Word} {s t : State} (h : accessCore n nv wm s = .ok (p, t)) :
    ∃ row ∈ tableRows s.cfg, row.binds s.cfg.xlen n.toNat = true ∧ row.entry.run n nv wm s = .ok (p, t) := by
  unfold accessCore at h
  split at h
  · cases h
  · split at h
    · cases h
    · obtain ⟨row, hrow, hbinds, rfl⟩ := row_of_accessorEntry _ _ _ ‹_›
      exact ⟨row, hrow, hbinds, h⟩

/-- No access calls `Invalidate()` more often than its number's budget (R87). -/
theorem accessRegister_keepsBudget (n : BitVec 12) (nv wm : Word) (s : State) :
    invalidations (accessRegister n nv wm s) ≤ invalidateBudget n := by
  obtain ⟨p, t, hcore, h⟩ | ⟨k, -, h⟩ := accessRegister_cases n nv wm s <;> rw [h]
  · obtain ⟨row, hrow, hbinds, hrun⟩ := row_of_accessCore_ok hcore
    calc invalidations t ≤ invalidations s.clearOutput + invalidateBudget n :=
          tableRows_keepBudget _ row hrow _ n hbinds _ _ _ p t hrun
      _ = invalidateBudget n := Nat.zero_add _
  · exact Nat.zero_le _

theorem invalidateBudget_le_one (n : BitVec 12) : invalidateBudget n ≤ 1 := by
  unfold invalidateBudget
  split <;> decide

/-- Settles O10: every row of the table keeps the budget of R87, and the budget is one at three numbers alone. -/
theorem onlyTranslationWritesInvalidate : Obligations.OnlyTranslationWritesInvalidate := by
  intro i n nv wm s t hi ht
  cases (exec_of_encode_call s hi).symm.trans ht
  have hbudget := accessRegister_keepsBudget n nv wm s
  refine ⟨fun hmstatus hsstatus hsatp => ?_, hbudget.trans (invalidateBudget_le_one n)⟩
  rw [invalidateBudget, if_neg (not_or.mpr ⟨hmstatus, not_or.mpr ⟨hsstatus, hsatp⟩⟩)] at hbudget
  exact List.count_eq_zero.mp (Nat.le_zero.mp hbudget)

end Sys2Proof.Machine
end

section
/-! SUPPORT. What a port word decodes to (R90 to R95, R99, R141): the decoder and the encoder are each other's
inverse, and a step runs what the decoder reads (R80, R94). -/

namespace Sys2Proof.Machine

/-! ### Instruction words (R95) -/

/-- The fields of R95 and the opcode SYSTEM make up the whole word. -/
theorem encodeInsn_fields {w : BitVec 32} {f : BitVec 3} (hop : opcodeField w = systemOpcode)
    (hf : (funct3Field w).toNat = f.toNat) : encodeInsn (csrField w) (rs1Field w) f (rdField w) = w := by
  obtain rfl : funct3Field w = f := BitVec.eq_of_toNat_eq hf
  refine BitVec.eq_of_getLsbD_eq fun i hi => ?_
  rw [getLsbD_encodeInsn, ← hop]
  simp only [opcodeField, rdField, funct3Field, rs1Field, csrField, BitVec.getLsbD_extractLsb']
  split_ifs <;> rw [decide_eq_true (by omega), Bool.true_and] <;> congr 1 <;> omega

/-- Each of the six forms is selected by the funct3 it is encoded with. -/
theorem encode_of_decodeInsn {w : BitVec 32} {i : Instr} (h : decodeInsn w = .ok i) : encode i = .insn w := by
  unfold decodeInsn at h
  split at h
  · split at h <;> cases h <;> exact congrArg PortWord.insn (encodeInsn_fields ‹_› ‹_›)
  · cases h

/-! ### Register numbers (R99, R141) -/

/-- Every row makes an instruction that is presented as the row's number with the operands of the call. -/
def RowsEncodeTheirNumber (rows : List (Nat × (Word → Word → Instr))) : Prop :=
  ∀ r ∈ rows, ∀ nv wm, encode (r.2 nv wm) = .call (BitVec.ofNat 12 r.1) nv wm

theorem fullRows_encode (k : Nat) : RowsEncodeTheirNumber (fullRows k) := by
  unfold fullRows
  split
  all_goals
    repeat refine List.forall_mem_cons.mpr ⟨fun _ _ => rfl, ?_⟩
    exact List.forall_mem_nil _

theorem userBuildRows_encode : RowsEncodeTheirNumber userBuildRows := by
  repeat refine List.forall_mem_cons.mpr ⟨fun _ _ => rfl, ?_⟩
  exact List.forall_mem_nil _

/-- What a row list gives to a number is presented as that number. -/
theorem encode_of_rowOf {rows : List (Nat × (Word → Word → Instr))} (hrows : RowsEncodeTheirNumber rows)
    {n : BitVec 12} {nv wm : Word} {i : Instr} (h : rowOf rows n.toNat nv wm = some i) : encode i = .call n nv wm := by
  obtain ⟨r, hr, rfl⟩ := Option.map_eq_some_iff.mp h
  have hn : r.1 = n.toNat := by simpa using List.find?_some hr
  rw [hrows r (List.mem_of_find?_eq_some hr), hn, BitVec.ofNat_toNat, BitVec.setWidth_eq]

/-- Whichever build's row answers, it is a row of the number (assumption 6). -/
theorem encode_of_decodeNumber {system : Bool} {n : BitVec 12} {nv wm : Word} {i : Instr}
    (h : decodeNumber system n nv wm = some i) : encode i = .call n nv wm := by
  cases system
  · obtain huser | ⟨-, hfull⟩ := Option.or_eq_some_iff.mp h
    · exact encode_of_rowOf userBuildRows_encode huser
    · exact encode_of_rowOf (fullRows_encode _) hfull
  · obtain hfull | ⟨-, huser⟩ := Option.or_eq_some_iff.mp h
    · exact encode_of_rowOf (fullRows_encode _) hfull
    · exact encode_of_rowOf userBuildRows_encode huser

theorem encode_of_decode {system : Bool} {p : PortWord} {i : Instr} (h : decode system p = .ok i) : encode i = p := by
  cases p with
  | insn w => exact encode_of_decodeInsn h
  | call n nv wm =>
    simp only [decode] at h
    split at h <;> cases h
    exact encode_of_decodeNumber ‹_›

/-- Seven numbers have a row in each build, and there the build's own row is read; the rest reads alike on both. -/
theorem decode_encode_iff (system : Bool) (i : Instr) :
    decode system (encode i) = .ok i ↔ i.inBuild system = true := by
  cases i with
  | csrrw csr f rd => exact iff_of_true (Laws.DecodeEncode.csrrw csr f rd system rfl) rfl
  | csrrs csr f rd => exact iff_of_true (Laws.DecodeEncode.csrrs csr f rd system rfl) rfl
  | csrrc csr f rd => exact iff_of_true (Laws.DecodeEncode.csrrc csr f rd system rfl) rfl
  | csrrwi csr f rd => exact iff_of_true (Laws.DecodeEncode.csrrwi csr f rd system rfl) rfl
  | csrrsi csr f rd => exact iff_of_true (Laws.DecodeEncode.csrrsi csr f rd system rfl) rfl
  | csrrci csr f rd => exact iff_of_true (Laws.DecodeEncode.csrrci csr f rd system rfl) rfl
  | csrFflags _ _ | csrFrm _ _ | csrFcsr _ _ | csrCycle _ _ | csrInstret _ _ | csrCycleh _ _ | csrInstreth _ _ =>
    cases system
    · exact iff_of_false (fun h => by cases h) Bool.false_ne_true
    · exact iff_of_true rfl rfl
  | csrFflagsUserBuild _ _ | csrFrmUserBuild _ _ | csrFcsrUserBuild _ _ | csrCycleUserBuild _ _
  | csrInstretUserBuild _ _ | csrCyclehUserBuild _ _ | csrInstrethUserBuild _ _ =>
    cases system
    · exact iff_of_true rfl rfl
    · exact iff_of_false (fun h => by cases h) Bool.false_ne_true
  | _ => cases system <;> exact iff_of_true rfl rfl

/-- Settles O5: what is decoded is encoded by its word, and an encoding reads back exactly on the row's build. -/
theorem decodeAndEncodeAgree : Obligations.DecodeAndEncodeAgree := by
  intro system p i
  refine ⟨fun h => ?_, fun ⟨hp, hb⟩ => ?_⟩
  · obtain rfl := encode_of_decode h
    exact ⟨rfl, (decode_encode_iff system i).mp h⟩
  · rw [← hp]
    exact (decode_encode_iff system i).mpr hb

/-- Settles O4: each word and each number, by running the decoder. -/
theorem specWordsDecode : Obligations.SpecWordsDecode :=
  ⟨rfl, rfl, rfl, rfl, rfl, rfl, rfl, rfl, rfl, rfl, rfl⟩

/-! ### Steps (R80, R94, R95) -/

theorem runPort_of_decode {s : State} {p : PortWord} {i : Instr} (h : decode s.cfg.system p = .ok i) :
    runPort p s = exec i s := by
  simp [runPort, h]

/-- A step whose head of the inbox presents a port word runs that word (R80). -/
theorem step_inputOf {s : State} {p : PortWord} {rest : List Input} (h : s.inbox = inputOf p :: rest) :
    step s = runPort p { s with inbox := rest } := by
  cases p <;> simp [step, runNext, h, inputOf, runInput]

/-- Settles O1: the step runs the port, and the port runs what the decoder reads. -/
theorem stepRunsThePresentedInstruction : Obligations.StepRunsThePresentedInstruction :=
  fun _ _ _ _ hinbox hdecode => (step_inputOf hinbox).trans (runPort_of_decode hdecode)

/-- A word with another opcode, or with funct3 000 or 100, is no CSR instruction (R95). -/
theorem decodeInsn_error {w : BitVec 32}
    (h : opcodeField w ≠ systemOpcode ∨ funct3Field w = 0 ∨ funct3Field w = 4) :
    ∃ e, decodeInsn w = .error e := by
  unfold decodeInsn
  by_cases hop : opcodeField w = systemOpcode
  · rw [if_pos hop]
    obtain hne | hf | hf := h
    · exact absurd hop hne
    · exact ⟨_, by rw [hf]; rfl⟩
    · exact ⟨_, by rw [hf]; rfl⟩
  · exact ⟨_, if_neg hop⟩

theorem runPort_insn_of_error {s : State} {w : BitVec 32} {e : DecodeError} (h : decodeInsn w = .error e) :
    runPort (.insn w) s = .refused .notCsrInstruction := by
  simp [runPort, decode, h]

/-- Settles O3: the decoder rejects these words, and a rejected word is refused. -/
theorem otherWordsAreRefused : Obligations.OtherWordsAreRefused := by
  refine ⟨fun s w rest hinbox hw => ?_, fun s hinbox => ?_⟩
  · obtain ⟨e, he⟩ := decodeInsn_error hw
    exact (step_inputOf (p := .insn w) hinbox).trans (runPort_insn_of_error he)
  · simp [step, runNext, hinbox]

end Sys2Proof.Machine
end

section
/-! SUPPORT. The numbers that a build does not bind (R99, R100, R126, R141). -/

namespace Sys2Proof.Machine

/-! ### Failed accesses (R122, R126) -/

section Failures

variable {n : BitVec 12} {wm : Word} {s : State}

theorem accessRegister_gated (nv : Word) (h : gateDenies n (s.cfg.xlen.trunc wm) s = true) :
    accessRegister n nv wm s = accessFailed s .accessDenied :=
  accessRegister_error n nv wm s _ (accessCore_gated n _ _ _ h)

theorem accessRegister_unbound (nv : Word) (hgate : gateDenies n (s.cfg.xlen.trunc wm) s = false)
    (hentry : accessorEntry s.cfg n = none) : accessRegister n nv wm s = accessFailed s .unsupportedRegister :=
  accessRegister_error n nv wm s _ (accessCore_unbound n _ _ _ hgate hentry)

end Failures

/-! ### Numbers without an entry (R99, R141) -/

/-- The row binds no number from `lo` to `hi` at the width `x`. -/
def TableRow.avoids (x : Xlen) (lo hi : Nat) (row : TableRow) : Bool :=
  row.last < lo || hi < row.first || (row.rv32Only && x == .rv64)

theorem TableRow.binds_eq_false_of_avoids {x : Xlen} {lo hi k : Nat} {row : TableRow} (h : row.avoids x lo hi = true)
    (hlo : lo ≤ k) (hhi : k ≤ hi) : row.binds x k = false := by
  simp only [TableRow.avoids, Bool.or_eq_true, Bool.and_eq_true, decide_eq_true_eq, beq_iff_eq] at h
  obtain (hlast | hfirst) | ⟨h32, hx⟩ := h
  · simp [TableRow.binds, show ¬k ≤ row.last by omega]
  · simp [TableRow.binds, show ¬row.first ≤ k by omega]
  · simp [TableRow.binds, h32, hx]

theorem accessorEntry_none_of_avoids {c : Config} {lo hi : Nat}
    (h : ∀ row ∈ tableRows c, row.avoids c.xlen lo hi = true)
    {n : BitVec 12} (hlo : lo ≤ n.toNat) (hhi : n.toNat ≤ hi) : accessorEntry c n = none :=
  accessorEntry_none c n fun row hrow => TableRow.binds_eq_false_of_avoids (h row hrow) hlo hhi

/-- The rows of the build with privilege levels whose place no parameter moves (R99). -/
def fixedRows : List TableRow := lowerRows ++ machineRows ++ counterRows

/-- The PMP numbers of this hardware end at 0x3BF (R6, R99), so above them the fixed rows decide. -/
theorem tableRows_avoid {c : Config} (hc : c.isThisHardware = true) {lo hi : Nat} (hlo : 0x3BF < lo)
    (hfixed : ∀ row ∈ fixedRows, row.avoids c.xlen lo hi = true) :
    ∀ row ∈ tableRows c, row.avoids c.xlen lo hi = true := by
  obtain ⟨hsystem, hvalues⟩ := (isThisHardware_iff c).mp hc
  simp only [Config.hasRecordedValues, Bool.and_eq_true, beq_iff_eq] at hvalues
  obtain ⟨⟨-, hcfgs⟩, haddrs⟩ := hvalues
  rw [tableRows, if_pos hsystem]
  refine List.forall_mem_append.mpr ⟨hfixed, ?_⟩
  have hcfgEnd : 0x3A3 < lo := by omega
  simp [pmpRows, TableRow.avoids, spanRow, pmpCfgBase, pmpAddrBase, hcfgs, haddrs, hcfgEnd, hlo]

theorem fixedRows_avoid_time (x : Xlen) : ∀ row ∈ fixedRows, row.avoids x 0xC01 0xC01 = true := by
  cases x <;> decide

theorem fixedRows_avoid_timeh (x : Xlen) : ∀ row ∈ fixedRows, row.avoids x 0xC81 0xC81 = true := by
  cases x <;> decide

theorem fixedRows_avoid_machineHalves : ∀ row ∈ fixedRows, row.avoids .rv64 0xB80 0xB9F = true := by decide

theorem fixedRows_avoid_userHalves : ∀ row ∈ fixedRows, row.avoids .rv64 0xC80 0xC9F = true := by decide

/-- `time` and `timeh`, and on RV64 the high halves, have no entry on this hardware (R99, R100, R249). -/
theorem accessorEntry_none_of_thisHardware {c : Config} (hc : c.isThisHardware = true) {n : BitVec 12}
    (hn : n = 0xC01 ∨ n = 0xC81 ∨ (c.xlen = .rv64 ∧ ((0xB80 ≤ n ∧ n ≤ 0xB9F) ∨ (0xC80 ≤ n ∧ n ≤ 0xC9F)))) :
    accessorEntry c n = none := by
  obtain rfl | rfl | ⟨hx, ⟨hlo, hhi⟩ | ⟨hlo, hhi⟩⟩ := hn
  · exact accessorEntry_none_of_avoids (tableRows_avoid hc (by decide) (fixedRows_avoid_time _)) le_rfl le_rfl
  · exact accessorEntry_none_of_avoids (tableRows_avoid hc (by decide) (fixedRows_avoid_timeh _)) le_rfl le_rfl
  · exact accessorEntry_none_of_avoids (tableRows_avoid hc (by decide) (hx ▸ fixedRows_avoid_machineHalves)) hlo hhi
  · exact accessorEntry_none_of_avoids (tableRows_avoid hc (by decide) (hx ▸ fixedRows_avoid_userHalves)) hlo hhi

/-- Each row of the other build is one number, six on both widths and three on RV32 only (R141). -/
theorem userRows_single : ∀ row ∈ userRows, row.first = row.last ∧
    (BitVec.ofNat 12 row.first ∈ ([0x001, 0x002, 0x003, 0xC00, 0xC01, 0xC02] : List (BitVec 12)) ∨
      row.rv32Only = true ∧ BitVec.ofNat 12 row.first ∈ ([0xC80, 0xC81, 0xC82] : List (BitVec 12))) := by
  decide

/-- The numbers that R141 does not bind have no entry. -/
theorem accessorEntry_none_of_userBuild {c : Config} (hc : c.system = false) {n : BitVec 12}
    (hboth : n ∉ ([0x001, 0x002, 0x003, 0xC00, 0xC01, 0xC02] : List (BitVec 12)))
    (hhalves : c.xlen = .rv64 ∨ n ∉ ([0xC80, 0xC81, 0xC82] : List (BitVec 12))) : accessorEntry c n = none := by
  refine accessorEntry_none c n fun row hrow => Bool.eq_false_iff.mpr fun hbinds => ?_
  rw [tableRows, hc] at hrow
  obtain ⟨hsingle, hnumber⟩ := userRows_single row hrow
  simp only [TableRow.binds, Bool.and_eq_true, decide_eq_true_eq] at hbinds
  obtain ⟨⟨hfirst, hlast⟩, hwidth⟩ := hbinds
  have hn : BitVec.ofNat 12 row.first = n := by
    rw [Nat.le_antisymm hfirst (hsingle ▸ hlast), BitVec.ofNat_toNat, BitVec.setWidth_eq]
  rw [hn] at hnumber
  obtain hmem | ⟨h32, hmem⟩ := hnumber
  · exact hboth hmem
  · obtain hx | hnot := hhalves
    · simp [h32, hx] at hwidth
    · exact hnot hmem

/-- Settles O43: past gating, a number without an entry fails by R126. -/
theorem numbersUnboundOnThisBuild : Obligations.NumbersUnboundOnThisBuild := by
  refine ⟨fun i n nv wm s hi hc hread hlevel hn => ?_, fun i n nv wm s hi hc hboth hhalves => ?_⟩ <;>
    rw [exec_of_encode_call s hi]
  · have hwrite : s.cfg.xlen.trunc wm = 0 ∨ isReadOnly n = false :=
      hread.imp_right fun h => beq_eq_false_iff_ne.mpr h
    have hgate := (gateDenies_eq_false_iff n (s.cfg.xlen.trunc wm) s).mpr fun _ => ⟨hwrite, hlevel⟩
    rw [accessRegister_unbound nv hgate (accessorEntry_none_of_thisHardware hc hn)]
  · have hgate := (gateDenies_eq_false_iff n (s.cfg.xlen.trunc wm) s).mpr fun h => by simp [hc] at h
    rw [accessRegister_unbound nv hgate (accessorEntry_none_of_userBuild hc hboth hhalves)]

end Sys2Proof.Machine
end

section
/-! SUPPORT. The six CSR instructions: what becomes of the result of their access, and the pure reads and the writes of
`mscratch` and `mhartid` that show it (R96, R300). -/

namespace Sys2Proof.Machine

/-! ### Results (R96, R300) -/

theorem writeX_advancePc (s : State) (rd : BitVec 5) (p : Word) : (s.writeX rd p).advancePc = retired s rd p := by
  unfold State.writeX retired
  split <;> rfl

theorem retire_eq_retired {s : State} (rd : BitVec 5) {p : Word} (h : s.result = some (.success p)) :
    retire rd s = retired s rd p := by
  rw [retire_success s rd p h, writeX_advancePc]

theorem retire_accessFailed (s : State) (rd : BitVec 5) (k : CsrError) : retire rd (accessFailed s k) = trapped s k :=
  retire_failure _ rd k rfl

theorem csrInstruction_success {csr : BitVec 12} {c : CallShape} {s u : State} (rd : BitVec 5) {p : Word}
    (hu : accessRegister csr c.newValue c.writeMask s = u) (hp : u.result = some (.success p)) :
    csrInstruction csr c rd s = retired u rd p := by
  rw [csrInstruction, hu, retire_eq_retired rd hp]

/-- A failed access is `accessFailed`, whatever its operands (R137). -/
theorem accessRegister_eq_failed {csr : BitVec 12} {nv wm : Word} {s : State} {k : CsrError}
    (h : (accessRegister csr nv wm s).result = some (.failure k)) : accessRegister csr nv wm s = accessFailed s k := by
  obtain ⟨p, t, -, ht⟩ | ⟨j, -, ht⟩ := accessRegister_cases csr nv wm s <;> rw [ht] at h ⊢ <;> cases h
  rfl

/-- Settles O47: the six instructions differ in their call alone. -/
theorem csrInstructionsRetire : Obligations.CsrInstructionsRetire := by
  refine ⟨?_, ?_, ?_, ?_, ?_, ?_⟩ <;> intro csr f rd s u p hu hp <;>
    exact congrArg Host.Outcome.next (csrInstruction_success rd hu hp)

/-! ### Operands (R96) -/

/-- Register 0 reads 0, so naming it apart changes no source operand. -/
theorem ite_readX (s : State) (r : BitVec 5) : (if r = 0 then 0 else s.readX r) = s.readX r := by
  split
  · rename_i h
    rw [h, readX_zero]
  · rfl

@[simp] theorem trunc_zero (x : Xlen) : x.trunc 0#64 = 0#64 := by cases x <;> rfl

@[simp] theorem trunc_ones (x : Xlen) : x.trunc x.ones = x.ones := by cases x <;> rfl

theorem trunc_zextUimm (x : Xlen) (u : BitVec 5) : x.trunc (u.setWidth 64) = u.setWidth 64 :=
  (fits_iff x _).mp (fits_setWidth x u (by decide))

section Merges

variable (s : State) {old : Word} (v : Word)

/-- `writeShape` replaces all XLEN bits (R94). -/
theorem merged_write (h : old.fits s.cfg.xlen = true) : merged s old v s.cfg.xlen.ones = s.cfg.xlen.trunc v := by
  have hold : old &&& ~~~s.cfg.xlen.ones = 0 := beq_iff_eq.mp h
  simp [merged, hold, Xlen.trunc, BitVec.and_assoc]

/-- `setShape` sets the bits of the source (R94). -/
theorem merged_set : merged s old s.cfg.xlen.ones v = old ||| s.cfg.xlen.trunc v := by
  rw [merged, trunc_ones, Xlen.trunc]
  ext i hi
  simp
  cases old[i] <;> cases v[i] <;> simp

/-- `clearShape` clears the bits of the source (R94). -/
theorem merged_clear : merged s old 0 v = old &&& ~~~s.cfg.xlen.trunc v := by
  simp [merged]

end Merges

/-! ### mscratch (R151) -/

/-- A plain-form access of one bank field returns it and stores the merged value; with an empty mask that is the old one
(R128). -/
theorem plainAccess_field {r : BitVec 12 → State → Except CsrError (Word × State)}
    {w : BitVec 12 → Word → State → Except CsrError State} {n : BitVec 12} (nv wm : Word) {s : State} {p : Word}
    {set : Word → Bank} (hr : r n s = .ok (p, s)) (hw : ∀ v, w n v s = .ok (s.setBank (set v)))
    (hp : set p = s.bank) : plainAccess r w n nv wm s = .ok (p, s.setBank (set (merge p nv wm))) := by
  by_cases hwm : wm = 0
  · rw [hwm, merge_zero, hp]
    exact plainAccess_pureRead n nv s r w p s hr
  · exact plainAccess_write n nv wm s r w p s _ hr hwm (hw _)

theorem accessRegister_mscratch (nv wm : Word) {s : State} (h : reaches s .m) : accessRegister 0x340 nv wm s =
    accessDone s s.bank.mscratch { s.bank with mscratch := merged s s.bank.mscratch nv wm } [] := by
  have hgate : gateDenies 0x340 (s.cfg.xlen.trunc wm) s.clearOutput = false := gateDenies_of_reaches _ h rfl rfl
  have hrun := plainAccess_field (r := readMscratch) (w := writeMscratch) (n := 0x340) (s := s.clearOutput)
    (set := fun v => { s.bank with mscratch := v }) (s.cfg.xlen.trunc nv) (s.cfg.xlen.trunc wm) rfl (fun _ => rfl) rfl
  exact accessRegister_ok 0x340 nv wm s _ _
    ((accessCore_entry _ _ _ _ _ hgate (entry_mscratch s.cfg h.1)).trans hrun)

/-- A CSR instruction on 0x340 leaves in mscratch the value its call shape merges, and returns the old one. -/
theorem csrInstruction_mscratch (c : CallShape) (rd : BitVec 5) {s : State} {v : Word} (h : reaches s .m)
    (hv : merged s s.bank.mscratch c.newValue c.writeMask = v) : csrInstruction 0x340 c rd s =
      retired (accessDone s s.bank.mscratch { s.bank with mscratch := v } []) rd s.bank.mscratch :=
  csrInstruction_success rd (hv ▸ accessRegister_mscratch _ _ h) rfl

/-- Settles O49: each call shape on 0x340 is its merge of R94. -/
theorem csrInstructionsOnScratch : Obligations.CsrInstructionsOnScratch := by
  refine ⟨?_, ?_, ?_, ?_, ?_, ?_⟩ <;> intro f rd s hr hfits <;>
    refine congrArg Host.Outcome.next (csrInstruction_mscratch _ rd hr ?_) <;>
    simp only [writeShape, setShape, clearShape, zextUimm, ite_readX]
  · exact merged_write s _ hfits
  · exact merged_set s _
  · exact merged_clear s _
  · rw [merged_write s _ hfits, trunc_zextUimm]
  · rw [merged_set, trunc_zextUimm]
  · rw [merged_clear, trunc_zextUimm]

/-! ### Pure reads and read-only numbers (R94, R96, R122) -/

/-- Only the two pending words are read, changed and written in one act (R99, R179, R180). -/
theorem combined_of_mem_tableRows {c : Config} {row : TableRow} (h : row ∈ tableRows c)
    {op : BitVec 12 → Word → Word → State → Except CsrError (Word × State)} (hop : row.entry = .combinedRmw op) :
    op = rmwMip ∨ op = rmwSip := by
  suffices hrows : ∀ row ∈ tableRows c, ∀ op, row.entry = .combinedRmw op → op = rmwMip ∨ op = rmwSip from
    hrows row h op hop
  unfold tableRows
  split <;> simp [lowerRows, machineRows, counterRows, pmpRows, userRows, oneRow, spanRow, rv32Row]

theorem rmwMip_pureRead (n : BitVec 12) (nv : Word) (s : State) :
    rmwMip n nv 0#64 s = .ok (s.bank.mip.setWidth 64, s.emit .readPending) :=
  rmwMip_unlocked n nv (by simp [mipWritable])

/-- With an empty mask no entry looks at the new value (R94, R128). -/
theorem run_pureRead {c : Config} {row : TableRow} (h : row ∈ tableRows c) (n : BitVec 12) (nv nv' : Word) (s : State) :
    row.entry.run n nv 0 s = row.entry.run n nv' 0 s := by
  cases hentry : row.entry with
  | read r => rfl
  | readWrite r w => simp [plainAccess]
  | combinedRmw op =>
    obtain rfl | rfl := combined_of_mem_tableRows h hentry
    · simp [rmwMip_pureRead]
    · simp [rmwSip, rmwMip_pureRead]

/-- Every call with an empty mask is the pure read (R94). -/
theorem accessRegister_pureRead (n : BitVec 12) (nv : Word) {wm : Word} {s : State} (h : pureRead s wm) :
    accessRegister n nv wm s = accessRegister n 0 0 s := by
  suffices hcore : accessCore n (s.cfg.xlen.trunc nv) 0 s.clearOutput = accessCore n 0 0 s.clearOutput by
    have hzero : s.cfg.xlen.trunc 0 = 0 := trunc_zero _
    simp only [accessRegister, h, hzero, hcore]
  unfold accessCore
  split
  · rfl
  · split
    · rfl
    · obtain ⟨row, hrow, -, rfl⟩ := row_of_accessorEntry _ _ _ ‹_›
      exact run_pureRead hrow n _ _ _

/-- The instruction reads, sets or clears, and its source holds 0 (R96). -/
abbrev readsZeroSource (csr : BitVec 12) (rs1 rd : BitVec 5) (s : State) (i : Instr) : Prop :=
  i ∈ ([.csrrs csr rs1 rd, .csrrc csr rs1 rd] : List Instr) ∧ s.cfg.xlen.trunc (s.readX rs1) = 0
    ∨ i ∈ ([.csrrsi csr 0 rd, .csrrci csr 0 rd] : List Instr)

/-- Such an instruction makes the pure read of its number (R96). -/
theorem exec_of_readsZeroSource {i : Instr} {csr : BitVec 12} {rs1 rd : BitVec 5} {s : State}
    (h : readsZeroSource csr rs1 rd s i) : exec i s = .next (retire rd (accessRegister csr 0 0 s)) := by
  simp only [readsZeroSource, List.mem_cons, List.not_mem_nil, or_false] at h
  obtain ⟨rfl | rfl, hsource⟩ | rfl | rfl := h <;>
    refine congrArg (fun u => Host.Outcome.next (retire rd u)) (accessRegister_pureRead csr _ ?_)
  · exact (congrArg s.cfg.xlen.trunc (ite_readX s rs1)).trans hsource
  · exact (congrArg s.cfg.xlen.trunc (ite_readX s rs1)).trans hsource
  · exact trunc_zero _
  · exact trunc_zero _

/-- A write of all bits to a read-only number is gated at every level, so it traps (R96, R122, R300). -/
theorem csrInstruction_write_readOnly {csr : BitVec 12} (v : Word) (rd : BitVec 5) {s : State}
    (hcsr : csr.extractLsb' 10 2 = 3) (hsystem : s.cfg.system = true) :
    csrInstruction csr (writeShape s.cfg.xlen v) rd s = trapped s .accessDenied := by
  have hones : ¬s.cfg.xlen.ones = 0#64 := by cases s.cfg.xlen <;> decide
  have hgate : gateDenies csr (s.cfg.xlen.trunc s.cfg.xlen.ones) s = true := by
    simp [gateDenies, hsystem, isReadOnly, hcsr, hones]
  rw [csrInstruction, writeShape, accessRegister_gated v hgate, retire_accessFailed]

/-- The pure read of 0xF14 at M returns HARTID (R234). -/
theorem accessRegister_mhartid {s : State} (h : reaches s .m) :
    accessRegister 0xF14 0 0 s = accessDone s s.cfg.mhartid s.bank [] := by
  have hgate : gateDenies 0xF14 (s.cfg.xlen.trunc 0) s.clearOutput = false :=
    (gateDenies_eq_false_iff _ _ _).mpr fun _ => ⟨.inl (trunc_zero _), h.2⟩
  exact accessRegister_ok 0xF14 0 0 s s.cfg.mhartid s.clearOutput
    (accessCore_entry _ _ _ _ _ hgate (entry_mhartid s.cfg h.1))

theorem exec_mhartid_of_readsZeroSource {i : Instr} {rs1 rd : BitVec 5} {s : State} (hr : reaches s .m)
    (hi : readsZeroSource 0xF14 rs1 rd s i) :
    exec i s = .next (retired (accessDone s s.cfg.mhartid s.bank []) rd s.cfg.mhartid) := by
  rw [exec_of_readsZeroSource hi, accessRegister_mhartid hr, retire_eq_retired rd rfl]

/-- Settles O50: a zero source makes the pure read, and a write of a read-only number is gated. -/
theorem sourceHoldingZeroIsAPureRead : Obligations.SourceHoldingZeroIsAPureRead := by
  refine ⟨fun csr rs1 rd s _ i hi => ⟨fun p hp => ?_, fun k hk => ?_⟩,
    fun csr f rd s hcsr hsystem => ⟨?_, ?_⟩, fun rs1 rd s hr hsource => ⟨?_, ?_⟩, fun rd s hr => ⟨?_, ?_⟩⟩
  · rw [exec_of_readsZeroSource hi, retire_eq_retired rd hp]
  · rw [exec_of_readsZeroSource hi, accessRegister_eq_failed hk, retire_accessFailed]
  · exact congrArg Host.Outcome.next (csrInstruction_write_readOnly _ rd hcsr hsystem)
  · exact congrArg Host.Outcome.next (csrInstruction_write_readOnly _ rd hcsr hsystem)
  · exact exec_mhartid_of_readsZeroSource hr (.inl ⟨by simp, hsource⟩)
  · exact exec_mhartid_of_readsZeroSource hr (.inl ⟨by simp, hsource⟩)
  · exact exec_mhartid_of_readsZeroSource (rs1 := 0) hr (.inr (by simp))
  · exact exec_mhartid_of_readsZeroSource (rs1 := 0) hr (.inr (by simp))

end Sys2Proof.Machine
end

section
/-! SUPPORT. Gating and failures: what R122 denies, what a failure leaves, and the numbers of no row (R93, R126, R137). -/

namespace Sys2Proof.Machine

/-! ### Gating (R122) -/

section Gating

variable {n : BitVec 12} {wm : Word} {s : State}

/-- R122 in the words of the port: the mask's XLEN bits, bits 11:10 and bits 9:8 of the number. -/
theorem gateDenies_iff : gateDenies n (s.cfg.xlen.trunc wm) s = true ↔
    s.cfg.system = true ∧
      ((¬ pureRead s wm ∧ n.extractLsb' 10 2 = 3) ∨ s.bank.priv.code < n.extractLsb' 8 2) := by
  simp only [gateDenies, isReadOnly, Bool.and_eq_true, Bool.or_eq_true, bne_iff_ne, beq_iff_eq, decide_eq_true_eq, ne_eq]
  rfl

end Gating

/-- Settles O6: gating is the first test of R131. -/
theorem gatingComesFirst : Obligations.GatingComesFirst := by
  intro i n nv wm s hi hsystem hdenied
  rw [exec_of_encode_call s hi, accessRegister_gated nv (gateDenies_iff.mpr ⟨hsystem, hdenied⟩)]

/-- Settles O7: a failed access is one failure alone, whichever test or accessor raised it. -/
theorem failedAccessChangesNothing : Obligations.FailedAccessChangesNothing := by
  intro i n nv wm s t k hi ht hk
  cases (exec_of_encode_call s hi).symm.trans ht
  exact accessRegister_eq_failed hk

/-! ### Numbers without a row (R93, R126) -/

/-- A row of the opcode table, of either build, has the number (R99, R141). -/
def hasOpcodeRow (k : Nat) : Bool :=
  (fullRows (k / 256)).any (fun r => r.1 == k) || userBuildRows.any (fun r => r.1 == k)

theorem isSome_rowOf (rows : List (Nat × (Word → Word → Instr))) (k : Nat) (nv wm : Word) :
    (rowOf rows k nv wm).isSome = rows.any fun r => r.1 == k := by
  rw [rowOf, Option.isSome_map, Bool.eq_iff_iff, List.find?_isSome, List.any_eq_true]

/-- The decoder finds a row of either build, whichever build it reads for (assumption 6). -/
theorem isSome_decodeNumber (system : Bool) (n : BitVec 12) (nv wm : Word) :
    (decodeNumber system n nv wm).isSome = hasOpcodeRow n.toNat := by
  cases system <;> simp [decodeNumber, hasOpcodeRow, isSome_rowOf, Bool.or_comm]

/-- Every number that the row of the accessor table binds has a row of the opcode table. -/
def TableRow.inOpcodeTable (row : TableRow) : Bool :=
  (List.range' row.first (row.last + 1 - row.first)).all hasOpcodeRow

theorem TableRow.hasOpcodeRow_of_binds {x : Xlen} {k : Nat} {row : TableRow} (h : row.inOpcodeTable = true)
    (hbinds : row.binds x k = true) : hasOpcodeRow k = true := by
  simp only [TableRow.binds, Bool.and_eq_true, decide_eq_true_eq] at hbinds
  obtain ⟨⟨hfirst, hlast⟩, -⟩ := hbinds
  refine List.all_eq_true.mp h k (List.mem_range'_1.mpr ?_)
  omega

theorem fixedRows_inOpcodeTable : ∀ row ∈ fixedRows, row.inOpcodeTable = true := by decide

theorem userRows_inOpcodeTable : ∀ row ∈ userRows, row.inOpcodeTable = true := by decide


/-- The accessor table binds no number beyond the opcode table: the PMP numbers are those of R6. -/
theorem tableRows_inOpcodeTable {c : Config} (hc : c.hasRecordedValues = true) :
    ∀ row ∈ tableRows c, row.inOpcodeTable = true := by
  simp only [Config.hasRecordedValues, Bool.and_eq_true, beq_iff_eq] at hc
  obtain ⟨⟨-, hcfgs⟩, haddrs⟩ := hc
  unfold tableRows
  split
  · refine List.forall_mem_append.mpr ⟨fixedRows_inOpcodeTable, ?_⟩
    rw [pmpRows, hcfgs, haddrs]
    decide
  · exact userRows_inOpcodeTable

/-- A number that decodes to no row has no accessor entry (R93). -/
theorem accessorEntry_none_of_decode {c : Config} {system : Bool} {n : BitVec 12} {nv wm : Word} {e : DecodeError}
    (hc : c.hasRecordedValues = true) (h : decode system (.call n nv wm) = .error e) : accessorEntry c n = none := by
  have hrow : hasOpcodeRow n.toNat = false := by
    rw [← isSome_decodeNumber system n nv wm]
    cases hi : decodeNumber system n nv wm with
    | none => rfl
    | some i => simp [decode, hi] at h
  refine accessorEntry_none c n fun row hmem => Bool.eq_false_iff.mpr fun hbinds => ?_
  exact Bool.false_ne_true (hrow.symm.trans (row.hasOpcodeRow_of_binds (tableRows_inOpcodeTable hc row hmem) hbinds))

/-- A call of such a number is an access like any other (R93, R126). -/
theorem step_call_of_error {s : State} {n : BitVec 12} {nv wm : Word} {rest : List Input} {e : DecodeError}
    (hinbox : s.inbox = .call n nv wm :: rest) (h : decode s.cfg.system (.call n nv wm) = .error e) :
    step s = .next (accessRegister n nv wm { s with inbox := rest }) := by
  rw [step_inputOf (p := .call n nv wm) hinbox]
  simp [runPort, h, callRegister]

/-- Settles O2: the call is an access of a number without an entry, so gating denies it or R126 fails it. -/
theorem unboundNumbersFail : Obligations.UnboundNumbersFail := by
  intro s n nv wm rest hc hinbox hdecode
  refine (step_call_of_error hinbox hdecode).trans (congrArg _ ?_)
  split
  · exact accessRegister_gated nv (gateDenies_iff.mpr ‹_›)
  · exact accessRegister_unbound nv (Bool.eq_false_iff.mpr (mt gateDenies_iff.mp ‹_›))
      (accessorEntry_none_of_decode hc hdecode)

end Sys2Proof.Machine
end

section
/-! SUPPORT. The counters of the build without the privilege layer (R141). -/

namespace Sys2Proof.Machine

section UserCounters

variable {n : BitVec 12} (nv wm : Word) {s : State} (hsystem : s.cfg.system = false)

include hsystem in
/-- Without privilege levels nothing gates a `Read` entry, and its write is discarded (R129, R141). -/
theorem accessRegister_userRead {r : BitVec 12 → State → Except CsrError (Word × State)} {p : Word} {t : State}
    (hentry : accessorEntry s.cfg n = some (.read r)) (hr : r n s.clearOutput = .ok (p, t)) :
    accessRegister n nv wm s = { t with result := some (.success p) } := by
  have hgate : gateDenies n (s.cfg.xlen.trunc wm) s.clearOutput = false := by simp [gateDenies, hsystem]
  exact accessRegister_ok n nv wm s p t ((accessCore_entry n _ _ _ _ hgate hentry).trans hr)

include hsystem in
theorem accessRegister_userCount (hentry : accessorEntry s.cfg n = some (.read readUserCount)) :
    accessRegister n nv wm s = countDone s (s.cfg.xlen.trunc (nextCount s)) :=
  accessRegister_userRead nv wm hsystem hentry rfl

include hsystem in
theorem accessRegister_userCounth (hentry : accessorEntry s.cfg n = some (.read readUserCounth)) :
    accessRegister n nv wm s = countDone s (nextCount s >>> 32) :=
  accessRegister_userRead nv wm hsystem hentry rfl

end UserCounters

/-- Settles O46: the three low words share one accessor, the three halves another. -/
theorem countersOfTheUserBuild : Obligations.CountersOfTheUserBuild := by
  refine ⟨fun s nv wm hsystem => ?_, fun s nv wm hsystem hx => ?_⟩ <;>
    simp only [List.forall_mem_cons, List.not_mem_nil, false_implies, implies_true, and_true] <;>
    refine ⟨?_, ?_, ?_⟩ <;> refine congrArg Host.Outcome.next ?_
  · exact accessRegister_userCount nv wm hsystem (userEntry_cycle _ hsystem)
  · exact accessRegister_userCount nv wm hsystem (userEntry_time _ hsystem)
  · exact accessRegister_userCount nv wm hsystem (userEntry_instret _ hsystem)
  · exact accessRegister_userCounth nv wm hsystem (userEntry_cycleh _ hsystem hx)
  · exact accessRegister_userCounth nv wm hsystem (userEntry_timeh _ hsystem hx)
  · exact accessRegister_userCounth nv wm hsystem (userEntry_instreth _ hsystem hx)

end Sys2Proof.Machine
end

section
/-! SUPPORT. Pure reads: what an access with an empty mask can do (R94, R128, R136). -/

namespace Sys2Proof.Machine

/-- What reading a register can do to the state: nothing, one read of the pending word, or one draw of a collaborator's
value with its event, where the draw may be of the count (R89, R136). -/
inductive Observation (s : State) : State → Prop
  | silent : Observation s s
  | pending : Observation s (s.emit .readPending)
  | drawn (k : BitVec 64) {e : Event} (he : e.isWrite = false) : Observation s ({ s with count := k }.drawn.emit e)

namespace Observation

variable {s t : State} (h : Observation s t)

include h

theorem bank_eq : t.bank = s.bank := by cases h <;> rfl

theorem irqLock_eq : t.irqLock = s.irqLock := by cases h <;> rfl

/-- No call beyond those that stand already is a write (R89). -/
theorem events_read (hs : ∀ e ∈ s.events, e.isWrite = false) : ∀ e ∈ t.events, e.isWrite = false := by
  cases h with
  | silent => exact hs
  | pending => exact List.forall_mem_append.mpr ⟨hs, List.forall_mem_singleton.mpr rfl⟩
  | drawn k he => exact List.forall_mem_append.mpr ⟨hs, List.forall_mem_singleton.mpr he⟩

/-- Where nothing was drawn, only the output of the access is new. -/
theorem clearOutput_eq (hdraws : t.draws = s.draws) : t.clearOutput = s.clearOutput := by
  cases h with
  | silent | pending => rfl
  | drawn k he => exact absurd hdraws (Nat.succ_ne_self _)

end Observation

/-! ### Read accessors -/

/-- The accessor leaves the state as it is. -/
def SilentRead (r : BitVec 12 → State → Except CsrError (Word × State)) : Prop :=
  ∀ n s p t, r n s = .ok (p, t) → t = s

/-- The accessor does no more than observe. -/
def ObservingRead (r : BitVec 12 → State → Except CsrError (Word × State)) : Prop :=
  ∀ n s p t, r n s = .ok (p, t) → Observation s t

/-- With an empty mask the entry does no more than observe. -/
def Entry.Observes (e : Entry) : Prop :=
  ∀ n nv s p t, e.run n nv 0 s = .ok (p, t) → Observation s t

section Accessors

variable {r : BitVec 12 → State → Except CsrError (Word × State)}
  {w : BitVec 12 → Word → State → Except CsrError State}

theorem SilentRead.observing (h : SilentRead r) : ObservingRead r := fun n s p t hr => h n s p t hr ▸ .silent

/-- An accessor that nothing denies. -/
theorem silentRead_of_value {value : State → Word} : SilentRead fun _ s => .ok (value s, s) := by
  intro n s p t h
  cases h
  rfl

/-- An accessor that one test denies. -/
theorem silentRead_of_denied {denied : BitVec 12 → State → Bool} {value : State → Word} {k : CsrError}
    (h : ∀ n s, r n s = if denied n s then .error k else .ok (value s, s)) : SilentRead r := by
  intro n s p t hr
  rw [h] at hr
  split at hr <;> cases hr
  rfl

/-- With an empty mask a plain-form access is its read (R128). -/
theorem plainAccess_zero (n : BitVec 12) (nv : Word) (s : State) : plainAccess r w n nv 0 s = r n s := by
  cases h : r n s with
  | error k => exact plainAccess_readFails n nv 0 s r w k h
  | ok a => exact plainAccess_pureRead n nv s r w a.1 a.2 h

theorem read_observes (h : ObservingRead r) : (Entry.read r).Observes := fun n _ s p t => h n s p t

theorem readWrite_observes (h : ObservingRead r) : (Entry.readWrite r w).Observes :=
  fun n nv s p t hr => h n s p t ((plainAccess_zero n nv s).symm.trans hr)

end Accessors

theorem readFflags_silent : SilentRead readFflags :=
  silentRead_of_denied (denied := fun _ => fpDenied) fun _ _ => rfl

theorem readFrm_silent : SilentRead readFrm := silentRead_of_denied (denied := fun _ => fpDenied) fun _ _ => rfl

theorem readFcsr_silent : SilentRead readFcsr := silentRead_of_denied (denied := fun _ => fpDenied) fun _ _ => rfl

theorem readGatedZero_silent : SilentRead readGatedZero := silentRead_of_denied (denied := counterDenied) fun _ _ => rfl

theorem observation_currentCount (s : State) : Observation s (currentCount s).2 := .drawn (nextCount s) rfl

theorem readUserCount_observing : ObservingRead readUserCount := fun _ s _ _ h => by
  cases h
  exact observation_currentCount s

theorem readUserCounth_observing : ObservingRead readUserCounth := fun _ s _ _ h => by
  cases h
  exact observation_currentCount s

/-- Past the counter check, `cycle` and its like read as on the build without one (R241). -/
theorem readGatedCount_observing : ObservingRead readGatedCount := by
  intro n s p t h
  unfold readGatedCount at h
  split at h
  · cases h
  · exact readUserCount_observing n s p t h

theorem readGatedCounth_observing : ObservingRead readGatedCounth := by
  intro n s p t h
  unfold readGatedCounth at h
  split at h
  · cases h
  · exact readUserCounth_observing n s p t h

theorem readPmpCfg_observing : ObservingRead readPmpCfg := fun _ s _ _ h => by
  cases h
  exact .drawn s.count rfl

theorem readPmpAddr_observing : ObservingRead readPmpAddr := fun _ s _ _ h => by
  cases h
  exact .drawn s.count rfl

theorem rmwMip_observes : (Entry.combinedRmw rmwMip).Observes := by
  intro n nv s p t h
  cases (rmwMip_pureRead n nv s).symm.trans h
  exact .pending

/-- With an empty mask `sip` is read as `mip` is (R180). -/
theorem rmwSip_zero (n : BitVec 12) (nv : Word) (s : State) : rmwSip n nv 0 s = rmwMip n nv 0 s := by
  simp [rmwSip]

theorem rmwSip_observes : (Entry.combinedRmw rmwSip).Observes :=
  fun n nv s p t h => rmwMip_observes n nv s p t ((rmwSip_zero n nv s).symm.trans h)

/-! ### Fields of the bank -/

/-- The accessors of a field: the read leaves the state as it is, and so does a write of the value just read (R138). -/
def WritesBack (r : BitVec 12 → State → Except CsrError (Word × State))
    (w : BitVec 12 → Word → State → Except CsrError State) : Prop :=
  ∀ n s p t, r n s = .ok (p, t) → t = s ∧ ∀ u, w n p s = .ok u → u = s

section Fields

variable {r : BitVec 12 → State → Except CsrError (Word × State)}
  {w : BitVec 12 → Word → State → Except CsrError State}

theorem WritesBack.silent (h : WritesBack r w) : SilentRead r := fun n s p t hr => (h n s p t hr).1

/-- Unless they fail, the accessors read the value `get` and make the bank `set`. -/
theorem fieldEntry_writesBack (get : Bank → Word) (set : Config → Bank → Word → Bank)
    (hr : ∀ n s, r n s = .ok (get s.bank, s) ∨ ∃ k, r n s = .error k)
    (hw : ∀ n v s, w n v s = .ok (s.setBank (set s.cfg s.bank v)) ∨ ∃ k, w n v s = .error k)
    (hset : ∀ c b, set c b (get b) = b) : WritesBack r w := by
  intro n s p t hread
  obtain hok | ⟨k, hk⟩ := hr n s
  · cases hok.symm.trans hread
    refine ⟨rfl, fun u hwrite => ?_⟩
    obtain hok | ⟨k, hk⟩ := hw n (get s.bank) s
    · cases hok.symm.trans hwrite
      rw [hset]
      rfl
    · cases hk.symm.trans hwrite
  · cases hk.symm.trans hread

/-- The accessors of a field that both versions have: neither fails. -/
theorem plainField_writesBack (get : Bank → Word) (set : Config → Bank → Word → Bank)
    (hset : ∀ c b, set c b (get b) = b) :
    WritesBack (fun _ s => .ok (get s.bank, s)) (fun _ v s => .ok (s.setBank (set s.cfg s.bank v))) :=
  fieldEntry_writesBack get set (fun _ _ => .inl rfl) (fun _ _ _ => .inl rfl) hset

/-- A masked write of the value that is there changes no bit (R174). -/
@[simp] theorem maskedWrite_self (v mask : Word) : maskedWrite v v mask = v := by
  unfold maskedWrite
  ext i hi
  simp
  cases mask[i] <;> simp

/-- The bits under the mask are those that are there (R178). -/
@[simp] theorem maskedWrite_and_self (v mask : Word) : maskedWrite v (v &&& mask) mask = v := by
  unfold maskedWrite
  ext i hi
  simp
  cases mask[i] <;> simp

/-- A base that passes the test of R181 has bits 1:0 clear already. -/
@[simp] theorem vectorWritten_self (v : Word) : vectorWritten v v = v := by
  unfold vectorWritten
  split
  · rename_i h
    calc v &&& ~~~3 = maskedWrite v v 3 := (by rw [maskedWrite, h]; exact (BitVec.or_zero).symm)
      _ = v := maskedWrite_self v 3
  · rfl

end Fields

/-- R160. -/
theorem mcounteren_writesBack : WritesBack readMcounteren writeMcounteren :=
  fieldEntry_writesBack (·.mcounteren) (fun _ b v => { b with mcounteren := v })
    (fun _ s => by cases h : s.cfg.privVer <;> simp [readMcounteren, h])
    (fun _ _ s => by cases h : s.cfg.privVer <;> simp [writeMcounteren, h]) (fun _ _ => rfl)

/-- R161. -/
theorem scounteren_writesBack : WritesBack readScounteren writeScounteren :=
  fieldEntry_writesBack (·.scounteren) (fun _ b v => { b with scounteren := v })
    (fun _ s => by cases h : s.cfg.privVer <;> simp [readScounteren, h])
    (fun _ _ s => by cases h : s.cfg.privVer <;> simp [writeScounteren, h]) (fun _ _ => rfl)

/-- R162. -/
theorem mucounteren_writesBack : WritesBack readMucounteren writeMucounteren :=
  fieldEntry_writesBack (·.scounteren) (fun _ b v => { b with scounteren := v })
    (fun _ s => by cases h : s.cfg.privVer <;> simp [readMucounteren, h])
    (fun _ _ s => by cases h : s.cfg.privVer <;> simp [writeMucounteren, h]) (fun _ _ => rfl)

/-- R163. -/
theorem mscounteren_writesBack : WritesBack readMscounteren writeMscounteren :=
  fieldEntry_writesBack (·.mcounteren) (fun _ b v => { b with mcounteren := v })
    (fun _ s => by cases h : s.cfg.privVer <;> simp [readMscounteren, h])
    (fun _ _ s => by cases h : s.cfg.privVer <;> simp [writeMscounteren, h]) (fun _ _ => rfl)

/-- The legacy store looks for a change (R211). -/
theorem storeSptbr_self (s : State) : storeSptbr s.bank.sptbr s = s := if_pos rfl

/-- So does the current version's (R211). -/
theorem storeSatp_self (s : State) : storeSatp s.bank.satp s = s := by simp [storeSatp, hasFlag]

/-- R210 to R213. -/
theorem satp_writesBack : WritesBack readSatp writeSatp := by
  intro n s p t h
  unfold readSatp at h
  split at h
  · split at h <;> cases h <;> refine ⟨rfl, fun u hu => ?_⟩
    · simpa [writeSatp, *, storeSatp_self] using hu.symm
    · simpa [writeSatp, *, storeSptbr_self] using hu.symm
  · cases h
    refine ⟨rfl, fun u hu => ?_⟩
    simpa [writeSatp, *] using hu.symm

/-! ### The table (R99, R141) -/

theorem lowerRows_observe : ∀ row ∈ lowerRows, row.entry.Observes := by
  simp only [lowerRows, List.forall_mem_cons]
  refine ⟨readWrite_observes readFflags_silent.observing, readWrite_observes readFrm_silent.observing,
    readWrite_observes readFcsr_silent.observing, readWrite_observes ?_, readWrite_observes ?_, readWrite_observes ?_,
    readWrite_observes scounteren_writesBack.silent.observing, readWrite_observes ?_, readWrite_observes ?_,
    readWrite_observes ?_, readWrite_observes ?_, rmwSip_observes,
    readWrite_observes satp_writesBack.silent.observing, List.forall_mem_nil _⟩
  -- The rows left are read without a test.
  all_goals exact silentRead_of_value.observing

theorem machineRows_observe : ∀ row ∈ machineRows, row.entry.Observes := by
  simp only [machineRows, List.forall_mem_cons]
  refine ⟨readWrite_observes ?_, read_observes ?_, readWrite_observes ?_, readWrite_observes ?_, readWrite_observes ?_,
    readWrite_observes ?_, readWrite_observes mcounteren_writesBack.silent.observing,
    readWrite_observes mucounteren_writesBack.silent.observing,
    readWrite_observes mscounteren_writesBack.silent.observing, read_observes ?_, readWrite_observes ?_,
    readWrite_observes ?_, readWrite_observes ?_, readWrite_observes ?_, rmwMip_observes, List.forall_mem_nil _⟩
  -- The rows left are read without a test.
  all_goals exact silentRead_of_value.observing

theorem counterRows_observe : ∀ row ∈ counterRows, row.entry.Observes := by
  simp only [counterRows, List.forall_mem_cons]
  exact ⟨read_observes readGatedCount_observing, read_observes readGatedCount_observing,
    read_observes silentRead_of_value.observing, read_observes readGatedCounth_observing,
    read_observes readGatedCounth_observing, read_observes silentRead_of_value.observing,
    read_observes readGatedCount_observing, read_observes readGatedCount_observing,
    read_observes readGatedZero_silent.observing, read_observes readGatedCounth_observing,
    read_observes readGatedCounth_observing, read_observes readGatedZero_silent.observing,
    read_observes silentRead_of_value.observing, read_observes silentRead_of_value.observing,
    read_observes silentRead_of_value.observing, read_observes silentRead_of_value.observing, List.forall_mem_nil _⟩

theorem pmpRows_observe (c : Config) : ∀ row ∈ pmpRows c, row.entry.Observes := by
  simp only [pmpRows, List.forall_mem_cons]
  exact ⟨readWrite_observes readPmpCfg_observing, readWrite_observes readPmpAddr_observing, List.forall_mem_nil _⟩

theorem userRows_observe : ∀ row ∈ userRows, row.entry.Observes := by
  simp only [userRows, List.forall_mem_cons]
  exact ⟨readWrite_observes readFflags_silent.observing, readWrite_observes readFrm_silent.observing,
    readWrite_observes readFcsr_silent.observing, read_observes readUserCount_observing,
    read_observes readUserCount_observing, read_observes readUserCount_observing,
    read_observes readUserCounth_observing, read_observes readUserCounth_observing,
    read_observes readUserCounth_observing, List.forall_mem_nil _⟩

theorem tableRows_observe (c : Config) : ∀ row ∈ tableRows c, row.entry.Observes := by
  intro row hrow
  unfold tableRows at hrow
  split at hrow
  · simp only [List.mem_append] at hrow
    obtain ((h | h) | h) | h := hrow
    · exact lowerRows_observe row h
    · exact machineRows_observe row h
    · exact counterRows_observe row h
    · exact pmpRows_observe c row h
  · exact userRows_observe row hrow

/-! ### Accesses -/

/-- A pure read that succeeds does no more than observe, beside its result (R128, R130). -/
theorem accessRegister_observes {n : BitVec 12} {nv wm p : Word} {s : State} (hwm : pureRead s wm)
    (hp : (accessRegister n nv wm s).result = some (.success p)) :
    ∃ t, Observation s.clearOutput t ∧ accessRegister n nv wm s = { t with result := some (.success p) } := by
  obtain ⟨q, t, hcore, h⟩ | ⟨k, -, h⟩ := accessRegister_cases n nv wm s <;> rw [h] at hp <;> cases hp
  rw [show s.cfg.xlen.trunc wm = 0 from hwm] at hcore
  obtain ⟨row, hrow, -, hrun⟩ := row_of_accessCore_ok hcore
  exact ⟨t, tableRows_observe _ row hrow _ _ _ _ _ hrun, h⟩

/-- An access does not see the output of the one before it (R140). -/
theorem accessRegister_congr (n : BitVec 12) (nv wm : Word) {s t : State} (h : t.clearOutput = s.clearOutput) :
    accessRegister n nv wm t = accessRegister n nv wm s := by
  have hs (u : State) : accessRegister n nv wm u = accessRegister n nv wm u.clearOutput := rfl
  rw [hs t, hs s, h]

/-- Settles O8: a pure read observes, and where it drew nothing the same access finds the same state. -/
theorem pureReadChangesNothing : Obligations.PureReadChangesNothing := by
  intro i n nv wm p s t hi hwm ht hp
  cases (exec_of_encode_call s hi).symm.trans ht
  obtain ⟨u, hu, hacc⟩ := accessRegister_observes hwm hp
  rw [hacc]
  refine ⟨hu.bank_eq, hu.irqLock_eq, hu.events_read (List.forall_mem_nil _), fun hdraws => ?_⟩
  exact ⟨_, exec_of_encode_call _ hi,
    (congrArg State.result (accessRegister_congr n nv wm (hu.clearOutput_eq hdraws))).trans hp⟩

end Sys2Proof.Machine
end

section
/-! SUPPORT. Writing back the value just read (R131, R138). -/

namespace Sys2Proof.Machine

/-! ### Numbers that write the bank (R99) -/

/-- The numbers whose accessors write a field of the bank, less those of `statusNumbers`. -/
def fieldNumbers : List (BitVec 12) :=
  [0x104, 0x105, 0x106, 0x140, 0x141, 0x142, 0x143, 0x144, 0x180, 0x302, 0x303, 0x304, 0x305, 0x306, 0x320, 0x321,
   0x340, 0x341, 0x342, 0x343, 0x344]

/-- The numbers whose write path normalises the status word or marks it dirty (R165, R173, R261): the exceptions of
R138. -/
def statusNumbers : List (BitVec 12) := [0x001, 0x002, 0x003, 0x100, 0x300]

theorem BankWrite.eq_or_mem {c : Config} {n : BitVec 12} {v : Word} {b b' : Bank} (h : BankWrite c n v b b') :
    b' = b ∨ n ∈ fieldNumbers ∨ n ∈ statusNumbers := by
  cases h with
  | same => exact .inl rfl
  | mcounteren h | scounteren h | pending _ h =>
    obtain rfl | rfl := h <;> exact .inr (.inl (by decide))
  | mstatus h | sstatus h => exact h ▸ .inr (.inr (by decide))
  | float _ _ _ h => exact .inr (.inr (by obtain rfl | rfl | rfl := h <;> decide))
  | _ h => exact h ▸ .inr (.inl (by decide))

/-- An access of any other number leaves the bank. -/
theorem accessRegister_bank_of_not_mem {n : BitVec 12} (hfield : n ∉ fieldNumbers) (hstatus : n ∉ statusNumbers)
    (nv wm : Word) (s : State) : (accessRegister n nv wm s).bank = s.bank := by
  obtain ⟨-, -, -, -, -, v, -, hbank⟩ := accessRegister_effect n nv wm s
  obtain h | h | h := hbank.eq_or_mem
  · exact h
  · exact absurd h hfield
  · exact absurd h hstatus

/-! ### Entries of fields -/

/-- On a free lock, after a pure read through the entry, a write of the value read leaves the bank as it is and makes no
`Invalidate()`. The read changes no more than the output, so the write starts from the same state. -/
def Entry.Restores (e : Entry) : Prop :=
  ∀ n nv s p t, s.irqLock = .free → e.run n nv 0 s = .ok (p, t) → t.clearOutput = s.clearOutput ∧
    ∀ q u, e.run n (s.cfg.xlen.trunc p) s.cfg.xlen.ones s = .ok (q, u) →
      u.bank = s.bank ∧ invalidations u = invalidations s

/-- A write of all XLEN bits merges the value read to itself. -/
theorem merge_trunc_ones (x : Xlen) (p : Word) : merge p (x.trunc p) x.ones = p := by
  calc merge p (x.trunc p) x.ones = maskedWrite p p x.ones := by simp [merge, maskedWrite, Xlen.trunc, BitVec.and_assoc]
    _ = p := maskedWrite_self p x.ones

theorem readWrite_restores {r : BitVec 12 → State → Except CsrError (Word × State)}
    {w : BitVec 12 → Word → State → Except CsrError State} (h : WritesBack r w) : (Entry.readWrite r w).Restores := by
  intro n nv s p t _ hread
  rw [run_readWrite, plainAccess_zero] at hread
  obtain ⟨rfl, hwrite⟩ := h n s p t hread
  refine ⟨rfl, fun q u hrun => ?_⟩
  obtain ⟨v, hread', hu⟩ := plainAccess_ok hrun
  cases hread.symm.trans hread'
  rw [merge_trunc_ones] at hu
  obtain rfl := hu.elim id (hwrite u)
  exact ⟨rfl, rfl⟩

/-- Of the pending word's own bits a write under any mask makes the pending word again (R179). -/
theorem pendingWritten_self (p : BitVec 32) (m : Word) :
    (p &&& ~~~m.setWidth 32) ||| ((p.setWidth 64 &&& m).setWidth 32 &&& m.setWidth 32) = p := by
  ext i hi
  simp [show i < 64 by omega]
  cases m[i] <;> simp

theorem rmwMip_bank_of_free {n : BitVec 12} {wm q : Word} {s u : State} (hlock : s.irqLock = .free)
    (h : rmwMip n (s.bank.mip.setWidth 64) wm s = .ok (q, u)) : u.bank = s.bank := by
  simp only [rmwMip] at h
  split at h <;> cases h
  · rfl
  · have hbank : (lockIrq s).bank = s.bank := by rw [lockIrq_free s hlock]; rfl
    simp only [getAndSetPending, updateMip, unlockIrq, emit_bank, setBank_bank, hbank, pendingWritten_self]

/-- On a free lock `rmw_mip` of the pending word just read leaves it, whatever the mask (R179). -/
theorem rmwMip_writesBack {n : BitVec 12} {nv p : Word} {s t : State} (hlock : s.irqLock = .free)
    (hread : rmwMip n nv 0 s = .ok (p, t)) : t.clearOutput = s.clearOutput ∧
      ∀ wm q u, rmwMip n (s.cfg.xlen.trunc p) wm s = .ok (q, u) →
        u.bank = s.bank ∧ invalidations u = invalidations s := by
  cases (rmwMip_pureRead n nv s).symm.trans hread
  refine ⟨rfl, fun wm q u hwrite => ⟨?_, rmwMip_quiet n _ wm s q u hwrite⟩⟩
  rw [(fits_iff s.cfg.xlen _).mp (fits_setWidth _ s.bank.mip (by decide))] at hwrite
  exact rmwMip_bank_of_free hlock hwrite

theorem rmwMip_restores : (Entry.combinedRmw rmwMip).Restores := by
  intro n nv s p t hlock hread
  obtain ⟨hclear, hwrite⟩ := rmwMip_writesBack (n := n) hlock hread
  exact ⟨hclear, hwrite s.cfg.xlen.ones⟩

theorem rmwSip_restores : (Entry.combinedRmw rmwSip).Restores := by
  intro n nv s p t hlock hread
  obtain ⟨hclear, hwrite⟩ := rmwMip_writesBack hlock ((rmwSip_zero n nv s).symm.trans hread)
  exact ⟨hclear, hwrite (s.cfg.xlen.ones &&& s.bank.mideleg)⟩

/-- The entry of a field that both versions have. -/
theorem plainField_restores (get : Bank → Word) (set : Config → Bank → Word → Bank)
    (hset : ∀ c b, set c b (get b) = b) :
    (Entry.readWrite (fun _ s => .ok (get s.bank, s)) (fun _ v s => .ok (s.setBank (set s.cfg s.bank v)))).Restores :=
  readWrite_restores (plainField_writesBack get set hset)

/-- Each field number's entry, on the build with privilege levels (R99). -/
theorem fieldEntries_restore {c : Config} (h : c.system = true) :
    ∀ n ∈ fieldNumbers, ∃ e, accessorEntry c n = some e ∧ e.Restores := by
  simp only [fieldNumbers, List.forall_mem_cons]
  exact ⟨⟨_, entry_sie c h, plainField_restores (fun b => b.mie &&& b.mideleg)
      (fun c b v => { b with mie := maskedWrite b.mie (maskedWrite b.mie v b.mideleg) c.allInt })
      fun _ _ => by simp only [maskedWrite_and_self, maskedWrite_self]⟩,
    ⟨_, entry_stvec c h, plainField_restores (·.stvec)
      (fun _ b v => { b with stvec := vectorWritten b.stvec v }) fun _ _ => by simp only [vectorWritten_self]⟩,
    ⟨_, entry_scounteren c h, readWrite_restores scounteren_writesBack⟩,
    ⟨_, entry_sscratch c h, plainField_restores (·.sscratch) (fun _ b v => { b with sscratch := v }) fun _ _ => rfl⟩,
    ⟨_, entry_sepc c h, plainField_restores (·.sepc) (fun _ b v => { b with sepc := v }) fun _ _ => rfl⟩,
    ⟨_, entry_scause c h, plainField_restores (·.scause) (fun _ b v => { b with scause := v }) fun _ _ => rfl⟩,
    ⟨_, entry_sbadaddr c h, plainField_restores (·.sbadaddr) (fun _ b v => { b with sbadaddr := v }) fun _ _ => rfl⟩,
    ⟨_, entry_sip c h, rmwSip_restores⟩,
    ⟨_, entry_satp c h, readWrite_restores satp_writesBack⟩,
    ⟨_, entry_medeleg c h, plainField_restores (·.medeleg)
      (fun c b v => { b with medeleg := maskedWrite b.medeleg v c.delegExc }) fun _ _ => by simp only [maskedWrite_self]⟩,
    ⟨_, entry_mideleg c h, plainField_restores (·.mideleg)
      (fun c b v => { b with mideleg := maskedWrite b.mideleg v c.delegInt }) fun _ _ => by simp only [maskedWrite_self]⟩,
    ⟨_, entry_mie c h, plainField_restores (·.mie)
      (fun c b v => { b with mie := maskedWrite b.mie v c.allInt }) fun _ _ => by simp only [maskedWrite_self]⟩,
    ⟨_, entry_mtvec c h, plainField_restores (·.mtvec)
      (fun _ b v => { b with mtvec := vectorWritten b.mtvec v }) fun _ _ => by simp only [vectorWritten_self]⟩,
    ⟨_, entry_mcounteren c h, readWrite_restores mcounteren_writesBack⟩,
    ⟨_, entry_mucounteren c h, readWrite_restores mucounteren_writesBack⟩,
    ⟨_, entry_mscounteren c h, readWrite_restores mscounteren_writesBack⟩,
    ⟨_, entry_mscratch c h, plainField_restores (·.mscratch) (fun _ b v => { b with mscratch := v }) fun _ _ => rfl⟩,
    ⟨_, entry_mepc c h, plainField_restores (·.mepc) (fun _ b v => { b with mepc := v }) fun _ _ => rfl⟩,
    ⟨_, entry_mcause c h, plainField_restores (·.mcause) (fun _ b v => { b with mcause := v }) fun _ _ => rfl⟩,
    ⟨_, entry_mbadaddr c h, plainField_restores (·.mbadaddr) (fun _ b v => { b with mbadaddr := v }) fun _ _ => rfl⟩,
    ⟨_, entry_mip c h, rmwMip_restores⟩, List.forall_mem_nil _⟩

theorem restores_of_mem_fieldNumbers {c : Config} {n : BitVec 12} {e : Entry} (hn : n ∈ fieldNumbers)
    (he : accessorEntry c n = some e) : e.Restores := by
  cases h : c.system with
  | true =>
    obtain ⟨e', he', hrestores⟩ := fieldEntries_restore h n hn
    cases he'.symm.trans he
    exact hrestores
  | false =>
    have hboth : ∀ n ∈ fieldNumbers, n ∉ ([0x001, 0x002, 0x003, 0xC00, 0xC01, 0xC02] : List (BitVec 12)) := by
      simp [fieldNumbers]
    have hhalves : ∀ n ∈ fieldNumbers, n ∉ ([0xC80, 0xC81, 0xC82] : List (BitVec 12)) := by
      simp [fieldNumbers]
    have hnone := accessorEntry_none_of_userBuild h (hboth n hn) (.inr (hhalves n hn))
    rw [hnone] at he
    cases he

/-! ### Accesses -/

/-- Past gating, the number's entry answers an access that succeeds (R126, R131). -/
theorem entry_of_accessCore_ok {n : BitVec 12} {nv wm p : Word} {s t : State}
    (h : accessCore n nv wm s = .ok (p, t)) :
    ∃ e, accessorEntry s.cfg n = some e ∧ e.run n nv wm s = .ok (p, t) := by
  unfold accessCore at h
  split at h
  · cases h
  · split at h
    · cases h
    · exact ⟨_, ‹_›, h⟩

/-- At a field number the write of the value just read, whether it succeeds or not, leaves the bank and does not
invalidate (R138). -/
theorem accessRegister_restores {n : BitVec 12} (hn : n ∈ fieldNumbers) {nv wm p : Word} {s : State}
    (hlock : s.irqLock = .free) (hwm : pureRead s wm)
    (hp : (accessRegister n nv wm s).result = some (.success p)) :
    (accessRegister n p s.cfg.xlen.ones (accessRegister n nv wm s)).bank = s.bank ∧
      invalidations (accessRegister n p s.cfg.xlen.ones (accessRegister n nv wm s)) = 0 := by
  obtain ⟨q, t, hcore, h⟩ | ⟨k, -, h⟩ := accessRegister_cases n nv wm s <;> rw [h] at hp <;> cases hp
  rw [show s.cfg.xlen.trunc wm = 0 from hwm] at hcore
  obtain ⟨e, he, hread⟩ := entry_of_accessCore_ok hcore
  obtain ⟨hclear, hwrite⟩ := restores_of_mem_fieldNumbers hn he n _ s.clearOutput p t hlock hread
  have hsame : (accessRegister n nv wm s).clearOutput = s.clearOutput := by
    rw [h]
    exact hclear
  rw [accessRegister_congr n p s.cfg.xlen.ones hsame]
  obtain ⟨q, u, hcore, h⟩ | ⟨k, -, h⟩ := accessRegister_cases n p s.cfg.xlen.ones s <;> rw [h]
  · rw [trunc_ones] at hcore
    obtain ⟨e', he', hrun⟩ := entry_of_accessCore_ok hcore
    cases he'.symm.trans he
    exact hwrite q u hrun
  · exact ⟨rfl, rfl⟩

/-- Settles O19: a field number's entry restores what was read, and any other number writes no field. -/
theorem writingBackWhatWasRead : Obligations.WritingBackWhatWasRead := by
  intro i j n nv wm p s t hstatus hlock hi hwm ht hp hj
  cases (exec_of_encode_call s hi).symm.trans ht
  refine ⟨_, exec_of_encode_call _ hj, ?_⟩
  by_cases hfield : n ∈ fieldNumbers
  · obtain ⟨hbank, hcalls⟩ := accessRegister_restores hfield hlock hwm hp
    exact ⟨hbank, List.count_eq_zero.mp hcalls⟩
  · have hkeeps := accessRegister_bank_of_not_mem hfield hstatus
    obtain ⟨hquiet, -⟩ := onlyTranslationWritesInvalidate j n p _ _ _ hj (exec_of_encode_call _ hj)
    refine ⟨(hkeeps _ _ _).trans (hkeeps nv wm s), hquiet ?_ ?_ ?_⟩ <;> rintro rfl
    · exact hstatus (by decide)
    · exact hstatus (by decide)
    · exact hfield (by decide)

end Sys2Proof.Machine
end

section
/-! SUPPORT. The registers that are one field of the bank, and the registers that are only read (R150 to R163, R174 to
R178, R181 to R183, R231 to R234). -/

namespace Sys2Proof.Machine

/-! ### Accesses that gating passes (R125 to R130) -/

/-- A `Read` entry whose accessor leaves the state alone returns its value (R129). -/
theorem accessRegister_read {n : BitVec 12} {nv wm p : Word} {s : State}
    {r : BitVec 12 → State → Except CsrError (Word × State)}
    (hgate : gateDenies n (s.cfg.xlen.trunc wm) s = false) (he : accessorEntry s.cfg n = some (.read r))
    (hr : r n s.clearOutput = .ok (p, s.clearOutput)) : accessRegister n nv wm s = accessDone s p s.bank [] :=
  accessRegister_ok n nv wm s p _ ((accessCore_entry n _ _ s.clearOutput _ hgate he).trans hr)

section Writable

variable {n : BitVec 12} {nv wm : Word} {s : State} {p : Priv}
  {r : BitVec 12 → State → Except CsrError (Word × State)} {w : BitVec 12 → Word → State → Except CsrError State}
  (h : reaches s p) (hp : requiredPrivilege n = p.code) (hn : isReadOnly n = false)
  (he : accessorEntry s.cfg n = some (.readWrite r w))

include h hp hn he

/-- At its own level and above, the access of a writable number with a plain-form entry is that form (R125). -/
theorem accessCore_readWrite : accessCore n (s.cfg.xlen.trunc nv) (s.cfg.xlen.trunc wm) s.clearOutput =
    plainAccess r w n (s.cfg.xlen.trunc nv) (s.cfg.xlen.trunc wm) s.clearOutput :=
  accessCore_entry n _ _ s.clearOutput _ (gateDenies_of_reaches _ h hp hn) he

/-- A read accessor that fails decides the access (R127). -/
theorem accessRegister_readFails {k : CsrError} (hr : r n s.clearOutput = .error k) :
    accessRegister n nv wm s = accessFailed s k :=
  accessRegister_error n nv wm s k
    ((accessCore_readWrite h hp hn he).trans (plainAccess_readFails n _ _ s.clearOutput r w k hr))

/-- A field of the bank is returned and the merged value stored; with an empty mask that is the old one (R128). -/
theorem accessRegister_field {old : Word} (set : Word → Bank) (hr : r n s.clearOutput = .ok (old, s.clearOutput))
    (hw : ∀ v, w n v s.clearOutput = .ok (s.clearOutput.setBank (set v))) (hset : set old = s.bank) :
    accessRegister n nv wm s = accessDone s old (set (merged s old nv wm)) [] :=
  accessRegister_ok n nv wm s old _ ((accessCore_readWrite h hp hn he).trans (plainAccess_field _ _ hr hw hset))

end Writable

/-! ### Pass-through registers (R150 to R158) -/

/-- Settles O21: each of the eight is a field stored verbatim. -/
theorem passThroughRegisters : Obligations.PassThroughRegisters := by
  refine ⟨fun s nv wm h => ⟨?_, ?_, ?_, ?_⟩, fun s nv wm h => ⟨?_, ?_, ?_, ?_⟩, fun s nv wm hsystem hu => ?user⟩
  case user =>
    have hdenied : ∀ i n, encode i = .call n nv wm → n.extractLsb' 8 2 = Priv.s.code →
        exec i s = .next (accessFailed s .accessDenied) :=
      fun i n hi hn => gatingComesFirst i n nv wm s hi hsystem (.inr (by simp [hn, hu, Priv.code]))
    simp only [List.forall_mem_cons]
    exact ⟨hdenied _ _ rfl rfl, hdenied _ _ rfl rfl, hdenied _ _ rfl rfl, hdenied _ _ rfl rfl, List.forall_mem_nil _⟩
  all_goals refine congrArg Host.Outcome.next ?_
  · exact accessRegister_mscratch nv wm h
  · exact accessRegister_field h rfl rfl (entry_mepc _ h.1) (fun v => { s.bank with mepc := v }) rfl (fun _ => rfl) rfl
  · exact accessRegister_field h rfl rfl (entry_mcause _ h.1) (fun v => { s.bank with mcause := v }) rfl
      (fun _ => rfl) rfl
  · exact accessRegister_field h rfl rfl (entry_mbadaddr _ h.1) (fun v => { s.bank with mbadaddr := v }) rfl
      (fun _ => rfl) rfl
  · exact accessRegister_field h rfl rfl (entry_sscratch _ h.1) (fun v => { s.bank with sscratch := v }) rfl
      (fun _ => rfl) rfl
  · exact accessRegister_field h rfl rfl (entry_sepc _ h.1) (fun v => { s.bank with sepc := v }) rfl (fun _ => rfl) rfl
  · exact accessRegister_field h rfl rfl (entry_scause _ h.1) (fun v => { s.bank with scause := v }) rfl
      (fun _ => rfl) rfl
  · exact accessRegister_field h rfl rfl (entry_sbadaddr _ h.1) (fun v => { s.bank with sbadaddr := v }) rfl
      (fun _ => rfl) rfl

/-! ### Counter enables (R159 to R163) -/

/-- Settles O22: in its version each is a field stored verbatim, in the other its read accessor fails. -/
theorem counterEnableRegisters : Obligations.CounterEnableRegisters := by
  refine ⟨fun s nv wm h => ?_, fun s nv wm h => ?_, fun s nv wm h => ?_, fun s nv wm h => ?_⟩ <;>
    cases hv : s.cfg.privVer <;> refine congrArg Host.Outcome.next ?_
  · exact accessRegister_readFails h rfl rfl (entry_mcounteren _ h.1) (by simp [readMcounteren, hv])
  · exact accessRegister_field h rfl rfl (entry_mcounteren _ h.1) (fun v => { s.bank with mcounteren := v })
      (by simp [readMcounteren, hv]) (by simp [writeMcounteren, hv]) rfl
  · exact accessRegister_readFails h rfl rfl (entry_scounteren _ h.1) (by simp [readScounteren, hv])
  · exact accessRegister_field h rfl rfl (entry_scounteren _ h.1) (fun v => { s.bank with scounteren := v })
      (by simp [readScounteren, hv]) (by simp [writeScounteren, hv]) rfl
  · exact accessRegister_field h rfl rfl (entry_mucounteren _ h.1) (fun v => { s.bank with scounteren := v })
      (by simp [readMucounteren, hv]) (by simp [writeMucounteren, hv]) rfl
  · exact accessRegister_readFails h rfl rfl (entry_mucounteren _ h.1) (by simp [readMucounteren, hv])
  · exact accessRegister_field h rfl rfl (entry_mscounteren _ h.1) (fun v => { s.bank with mcounteren := v })
      (by simp [readMscounteren, hv]) (by simp [writeMscounteren, hv]) rfl
  · exact accessRegister_readFails h rfl rfl (entry_mscounteren _ h.1) (by simp [readMscounteren, hv])

/-! ### Delegation and enable registers (R174 to R178) -/

/-- The three masks of R6 that the interrupt and exception registers are written under. -/
theorem masks_of_thisHardware {c : Config} (h : c.isThisHardware = true) :
    c.delegExc = 0xBFFF ∧ c.delegInt = 0x222 ∧ c.allInt = 0xAAA := by
  have hvalues := ((isThisHardware_iff c).mp h).2
  simp only [Config.hasRecordedValues, Bool.and_eq_true, beq_iff_eq] at hvalues
  simp only [hvalues, and_self]

/-- Settles O26: each is a field written under one mask of R6. -/
theorem delegationAndEnableRegisters : Obligations.DelegationAndEnableRegisters := by
  intro s nv wm h hc
  obtain ⟨hexc, hint, hall⟩ := masks_of_thisHardware hc
  rw [← hexc, ← hint, ← hall]
  refine ⟨?_, ?_, ?_⟩ <;> refine congrArg Host.Outcome.next ?_
  · exact accessRegister_field h rfl rfl (entry_medeleg _ h.1)
      (fun v => { s.bank with medeleg := maskedWrite s.bank.medeleg v s.cfg.delegExc }) rfl (fun _ => rfl)
      (by simp only [maskedWrite_self])
  · exact accessRegister_field h rfl rfl (entry_mideleg _ h.1)
      (fun v => { s.bank with mideleg := maskedWrite s.bank.mideleg v s.cfg.delegInt }) rfl (fun _ => rfl)
      (by simp only [maskedWrite_self])
  · exact accessRegister_field h rfl rfl (entry_mie _ h.1)
      (fun v => { s.bank with mie := maskedWrite s.bank.mie v s.cfg.allInt }) rfl (fun _ => rfl)
      (by simp only [maskedWrite_self])

/-- Settles O27: sie is `mie` read under `mideleg` and written under it and the mask of `mie`. -/
theorem sieView : Obligations.SieView := by
  intro s nv wm h hc
  obtain ⟨-, -, hall⟩ := masks_of_thisHardware hc
  rw [← hall]
  exact congrArg Host.Outcome.next (accessRegister_field h rfl rfl (entry_sie _ h.1)
    (fun v => { s.bank with mie := maskedWrite s.bank.mie (maskedWrite s.bank.mie v s.bank.mideleg) s.cfg.allInt })
    rfl (fun _ => rfl) (by simp only [maskedWrite_and_self, maskedWrite_self]))

/-! ### Trap vectors (R181, R182) -/

/-- A pure read merges nothing (R128). -/
theorem merged_of_pureRead {s : State} {wm : Word} (h : pureRead s wm) (old nv : Word) : merged s old nv wm = old := by
  have hmask : s.cfg.xlen.trunc wm = 0 := h
  rw [merged, hmask]
  exact merge_zero _ old

/-- The vector's own rule covers the pure read too: the vector is written back as it is. -/
theorem vectorWritten_merged (s : State) (old nv wm : Word) : vectorWritten old (merged s old nv wm) =
    if ¬ pureRead s wm ∧ merged s old nv wm &&& 3 = 0 then merged s old nv wm &&& ~~~3 else old := by
  by_cases h : pureRead s wm
  · rw [merged_of_pureRead h, vectorWritten_self, if_neg (fun hboth => hboth.1 h)]
  · simp only [vectorWritten, h, not_false_eq_true, true_and]

/-- Settles O31: a vector is a field written by `vectorWritten`. -/
theorem trapVectorRegisters : Obligations.TrapVectorRegisters := by
  refine ⟨fun s nv wm h => ?_, fun s nv wm h => ?_⟩ <;> dsimp only <;> rw [← vectorWritten_merged] <;>
    refine congrArg Host.Outcome.next ?_
  · exact accessRegister_field h rfl rfl (entry_mtvec _ h.1)
      (fun v => { s.bank with mtvec := vectorWritten s.bank.mtvec v }) rfl (fun _ => rfl)
      (by simp only [vectorWritten_self])
  · exact accessRegister_field h rfl rfl (entry_stvec _ h.1)
      (fun v => { s.bank with stvec := vectorWritten s.bank.stvec v }) rfl (fun _ => rfl)
      (by simp only [vectorWritten_self])

/-! ### Read-only registers (R183, R231 to R234) -/

/-- Settles O32: misa is no read-only number, so its write passes gating and its entry discards it; on the four others
gating lets a pure read pass alone. -/
theorem misaAndIdentification : Obligations.MisaAndIdentification := by
  refine ⟨fun s nv wm h => ?_, fun s nv wm h hread => ?_, fun s nv wm h hwrite => ?_⟩
  · exact congrArg Host.Outcome.next
      (accessRegister_read (gateDenies_of_reaches _ h rfl rfl) (entry_misa _ h.1) rfl)
  · have hgate : ∀ n, requiredPrivilege n = Priv.m.code → gateDenies n (s.cfg.xlen.trunc wm) s = false :=
      fun n hn => (gateDenies_eq_false_iff n _ s).mpr fun _ => ⟨.inl hread, hn ▸ h.2⟩
    refine ⟨?_, ?_, ?_, ?_⟩ <;> refine congrArg Host.Outcome.next ?_
    · exact accessRegister_read (hgate _ rfl) (entry_mvendorid _ h.1) rfl
    · exact accessRegister_read (hgate _ rfl) (entry_marchid _ h.1) rfl
    · exact accessRegister_read (hgate _ rfl) (entry_mimpid _ h.1) rfl
    · exact accessRegister_read (hgate _ rfl) (entry_mhartid _ h.1) rfl
  · have hdenied : ∀ i n, encode i = .call n nv wm → n.extractLsb' 10 2 = 3 →
        exec i s = .next (accessFailed s .accessDenied) :=
      fun i n hi hn => gatingComesFirst i n nv wm s hi h.1 (.inl ⟨hwrite, hn⟩)
    simp only [List.forall_mem_cons]
    exact ⟨hdenied _ _ rfl rfl, hdenied _ _ rfl rfl, hdenied _ _ rfl rfl, hdenied _ _ rfl rfl, List.forall_mem_nil _⟩

end Sys2Proof.Machine
end

section
/-! SUPPORT. Accesses of the pending word while no agent holds the lock (R31, R179, R180). -/

namespace Sys2Proof.Machine

/-! ### The locked update (R179) -/

/-- The bits of the new value are those under the mask already. -/
theorem setWidth_and_and_self (v m : Word) : (v &&& m).setWidth 32 &&& m.setWidth 32 = (v &&& m).setWidth 32 := by
  rw [← BitVec.setWidth_and, BitVec.and_assoc, BitVec.and_self]

/-- On a free lock the update is made between `Lock()` and `Unlock()`, and the lock is free again. -/
theorem rmwMip_locked_of_free (n : BitVec 12) (nv : Word) {wm : Word} {s : State} (hlock : s.irqLock = .free)
    (hm : mipWritable s.cfg wm ≠ 0) : rmwMip n nv wm s = .ok (s.bank.mip.setWidth 64,
      { s with
        bank := { s.bank with
          mip := (s.bank.mip &&& ~~~(mipWritable s.cfg wm).setWidth 32) ||| (nv &&& mipWritable s.cfg wm).setWidth 32 }
        events := s.events ++ [.lock, .getAndSetPending ((mipWritable s.cfg wm).setWidth 32)
          ((nv &&& mipWritable s.cfg wm).setWidth 32), .unlock] }) := by
  simp only [rmwMip, if_neg hm, lockIrq_free s hlock, getAndSetPending, updateMip, unlockIrq, State.emit, State.setBank,
    setWidth_and_and_self, List.append_assoc, List.cons_append, List.nil_append, hlock]

/-- An access whose core is `rmw_mip` under the mask `m`, on this hardware and a free lock. -/
theorem accessRegister_pending {n : BitVec 12} {nv wm m : Word} {s : State} (hc : s.cfg.isThisHardware = true)
    (hlock : s.irqLock = .free)
    (h : accessCore n (s.cfg.xlen.trunc nv) (s.cfg.xlen.trunc wm) s.clearOutput =
      rmwMip n (s.cfg.xlen.trunc nv) m s.clearOutput) : accessRegister n nv wm s =
    let m := m &&& 0x222 &&& ~~~0x200
    let v := s.cfg.xlen.trunc nv
    if m = 0 then accessDone s (s.bank.mip.setWidth 64) s.bank [.readPending]
    else accessDone s (s.bank.mip.setWidth 64)
      { s.bank with mip := (s.bank.mip &&& ~~~m.setWidth 32) ||| ((v &&& m).setWidth 32) }
      [.lock, .getAndSetPending (m.setWidth 32) ((v &&& m).setWidth 32), .unlock] := by
  have hmask : m &&& 0x222 &&& ~~~0x200 = mipWritable s.cfg m := by
    rw [mipWritable_of_recorded ((isThisHardware_iff _).mp hc).2, BitVec.and_assoc]
    rfl
  dsimp only
  rw [hmask]
  split
  · exact accessRegister_readPending h ‹_›
  · exact accessRegister_ok n nv wm s _ _ (h.trans (rmwMip_locked_of_free n _ hlock ‹_›))

/-- Settles O28: at 0x344 the access is `rmw_mip` under the mask of the port. -/
theorem mipAccess : Obligations.MipAccess := fun s _ _ h hc hlock =>
  congrArg Host.Outcome.next (accessRegister_pending hc hlock (accessCore_mip _ _ (s := s.clearOutput) h))

/-- Settles O29: at 0x144 it is `rmw_mip` under that mask cut to `mideleg`. -/
theorem sipAccess : Obligations.SipAccess := fun s _ _ h hc hlock =>
  congrArg Host.Outcome.next (accessRegister_pending hc hlock (accessCore_sip _ _ (s := s.clearOutput) h))

/-! ### The controller's bits (R31) -/

/-- An update that sets bits under its mask only leaves the pending word outside it. -/
theorem pendingWritten_outside (p : BitVec 32) (v m k : Word) :
    ((p &&& ~~~(m &&& k).setWidth 32) ||| (v &&& (m &&& k)).setWidth 32) &&& ~~~k.setWidth 32 =
      p &&& ~~~k.setWidth 32 := by
  ext i hi
  have hword : i < 64 := by omega
  cases hk : k[i] <;> simp [hword, hk]

/-- `rmw_mip` changes SSIP and STIP alone, whatever its mask (R179). -/
theorem rmwMip_keepsControllerBits {n : BitVec 12} {nv wm p : Word} {s t : State}
    (hc : s.cfg.hasRecordedValues = true) (hlock : s.irqLock = .free) (h : rmwMip n nv wm s = .ok (p, t)) :
    t.bank.mip &&& ~~~0x22 = s.bank.mip &&& ~~~0x22 := by
  by_cases hm : mipWritable s.cfg wm = 0
  · cases (rmwMip_unlocked n nv hm).symm.trans h
    rfl
  · cases (rmwMip_locked_of_free n nv hlock hm).symm.trans h
    rw [mipWritable_of_recorded hc]
    exact pendingWritten_outside s.bank.mip nv wm 0x22

/-- A number that writes the pending word has `rmw_mip` or `rmw_sip` as its entry, if it has one (R99, R141). -/
theorem entry_of_pendingNumber {c : Config} {n : BitVec 12} {e : Entry} (hn : n = 0x344 ∨ n = 0x144)
    (he : accessorEntry c n = some e) : e = .combinedRmw rmwMip ∨ e = .combinedRmw rmwSip := by
  cases h : c.system with
  | true =>
    obtain rfl | rfl := hn
    · cases (entry_mip c h).symm.trans he
      exact .inl rfl
    · cases (entry_sip c h).symm.trans he
      exact .inr rfl
  | false =>
    have hnone : accessorEntry c n = none := by
      obtain rfl | rfl := hn <;> exact accessorEntry_none_of_userBuild h (by decide) (.inr (by decide))
    cases hnone.symm.trans he

/-- No access changes a bit that only the interrupt controller sets (R31). -/
theorem accessRegister_keepsControllerBits (n : BitVec 12) (nv wm : Word) {s : State}
    (hc : s.cfg.hasRecordedValues = true) (hlock : s.irqLock = .free) :
    (accessRegister n nv wm s).bank.mip &&& ~~~0x22 = s.bank.mip &&& ~~~0x22 := by
  obtain ⟨p, t, hcore, h⟩ | ⟨k, -, h⟩ := accessRegister_cases n nv wm s
  · obtain ⟨v, -, hbank⟩ := (accessRegister_effect n nv wm s).bank
    generalize hb : (accessRegister n nv wm s).bank = b at hbank
    cases hbank with
    | pending q hn =>
      obtain ⟨e, he, hrun⟩ := entry_of_accessCore_ok hcore
      rw [← hb, h]
      obtain rfl | rfl := entry_of_pendingNumber hn he <;>
        exact rmwMip_keepsControllerBits (n := n) (s := s.clearOutput) (t := t) hc hlock hrun
    | _ => rfl
  · rw [h]
    rfl

/-- A trap does not reach the pending word (R309). -/
theorem takeTrap_mip (c : TrapCause) (tval : Word) (s : State) : (takeTrap c tval s).bank.mip = s.bank.mip := by
  unfold takeTrap
  split <;> rfl

/-- What the execution engine makes of a result does not either (R96, R300). -/
theorem retire_mip (rd : BitVec 5) (s : State) : (retire rd s).bank.mip = s.bank.mip := by
  unfold retire
  split
  · rw [advancePc_bank, writeX_bank]
  · exact takeTrap_mip _ _ _
  · rfl

/-- Settles O11: an instruction is one access, and retiring its result leaves the pending word. -/
theorem controllerPendingBitsStay : Obligations.ControllerPendingBitsStay := by
  intro i s t hc hlock ht
  obtain ⟨n, nv, wm, -, hx⟩ | ⟨-, csr, shape, rd, -, hx⟩ := exec_cases i s <;> cases hx.symm.trans ht
  · exact accessRegister_keepsControllerBits n nv wm hc hlock
  · rw [csrInstruction, retire_mip]
    exact accessRegister_keepsControllerBits csr _ _ hc hlock

end Sys2Proof.Machine
end

section
/-! SUPPORT. Accesses of the status word and of its supervisor view, in the numbers of the rules (R164 to R173). -/

namespace Sys2Proof.Machine

/-! ### The write path in numbers (R135, R165 to R170) -/

/-- A field of a word, shifted down and masked, is the field's bits. -/
theorem shiftRight_and_eq_extractLsb' (v : Word) (lo len : Nat) (hlen : len ≤ 64) :
    (v >>> lo) &&& BitVec.ofNat 64 (2 ^ len - 1) = (v.extractLsb' lo len).setWidth 64 := by
  have hpow : 2 ^ len ≤ 2 ^ 64 := Nat.pow_le_pow_right (by decide) hlen
  have hmask : (2 ^ len - 1) % 2 ^ 64 = 2 ^ len - 1 := Nat.mod_eq_of_lt (by have := Nat.two_pow_pos len; omega)
  have hfield : (v.toNat >>> lo) % 2 ^ len < 2 ^ 64 := (Nat.mod_lt _ (Nat.two_pow_pos len)).trans_le hpow
  apply BitVec.eq_of_toNat_eq
  rw [BitVec.toNat_and, BitVec.toNat_ushiftRight, BitVec.toNat_ofNat, hmask, Nat.and_two_pow_sub_one_eq_mod,
    BitVec.toNat_setWidth, BitVec.extractLsb'_toNat, Nat.mod_eq_of_lt hfield]

/-- R167 on the numbers of the levels. -/
theorem mppUnsupported_iff (c : Config) (v : Word) : mppUnsupported c (mppField v) = true ↔
    (v >>> 11) &&& 3 = 2 ∨ ((v >>> 11) &&& 3 = 1 ∧ c.misa.getLsbD 18 = false)
      ∨ ((v >>> 11) &&& 3 = 0 ∧ c.misa.getLsbD 20 = false) := by
  have hlevels : ∀ (f : BitVec 2) (hasS hasU : Bool), (f == 2 || (f == 1 && !hasS) || (f == 0 && !hasU)) = true ↔
      f.setWidth 64 = 2#64 ∨ (f.setWidth 64 = 1#64 ∧ hasS = false) ∨ (f.setWidth 64 = 0#64 ∧ hasU = false) := by decide
  have hfield : (v >>> 11) &&& 3 = (mppField v).setWidth 64 := shiftRight_and_eq_extractLsb' v 11 2 (by decide)
  rw [hfield]
  exact hlevels _ _ _

section LegacyModes

variable {c : Config} (hc : c.isThisHardware = true) (hver : c.privVer = .v1_9_1) (v : Word)

include hc in
theorem legalVmLegacy_of_thisHardware : c.legalVmLegacy = Config.defaultLegacyVm c.xlen := by
  have hvalues := ((isThisHardware_iff c).mp hc).2
  simp only [Config.hasRecordedValues, Bool.and_eq_true, beq_iff_eq] at hvalues
  simp only [hvalues]

theorem vmField_eq : (v >>> 24) &&& 0xF = (vmField v).setWidth 64 :=
  shiftRight_and_eq_extractLsb' v 24 4 (by decide)

include hc hver

/-- R135, RV32 and the legacy version. -/
theorem validateVm_legacy32 (hx : c.xlen = .rv32) : validateVm c (vmField v) =
    ((v >>> 24) &&& 0xF == 0 || (v >>> 24) &&& 0xF == 8) := by
  have htable : ∀ m : BitVec 4, (Config.defaultLegacyVm .rv32)[m.toNat] =
      (m.setWidth 64 == 0#64 || m.setWidth 64 == 8#64) := by decide
  simp only [validateVm, hver, legalVmLegacy_of_thisHardware hc, hx, vmField_eq]
  exact htable _

/-- R135, RV64 and the legacy version. -/
theorem validateVm_legacy64 (hx : c.xlen = .rv64) : validateVm c (vmField v) =
    ((v >>> 24) &&& 0xF == 0 || (v >>> 24) &&& 0xF == 9 || (v >>> 24) &&& 0xF == 10) := by
  have htable : ∀ m : BitVec 4, (Config.defaultLegacyVm .rv64)[m.toNat] =
      (m.setWidth 64 == 0#64 || m.setWidth 64 == 9#64 || m.setWidth 64 == 10#64) := by decide
  simp only [validateVm, hver, legalVmLegacy_of_thisHardware hc, hx, vmField_eq]
  exact htable _

end LegacyModes

/-- R166: the table is asked in the legacy version alone. -/
theorem wmask_eq {c : Config} {v : Word} {legal : Bool}
    (hlegal : c.privVer = .v1_9_1 → validateVm c (vmField v) = legal) :
    wmask c v = if c.privVer = .v1_9_1 ∧ legal = true then 0x1F0E79AA else 0xE79AA := by
  cases hver : c.privVer with
  | v1_10_0 =>
    simp only [wmask, hver]
    rfl
  | v1_9_1 =>
    simp only [wmask, hver, hlegal hver]
    cases legal <;> rfl

/-- R168. -/
theorem forceDirty_eq (v : Word) : forceDirty v = if v &&& 0x6000 = 0 then v else v ||| 0x6000 := by
  simp only [forceDirty, fsOff, beq_iff_eq]
  rfl

/-- R169. -/
theorem recomputeSd_eq (x : Xlen) (v : Word) : recomputeSd x v =
    if v &&& 0x6000 = 0x6000 ∨ v &&& 0x18000 = 0x18000 then v ||| mstatusSD x else v &&& ~~~mstatusSD x := by
  simp only [recomputeSd, setFlag, fsDirty, xsDirty, Bool.or_eq_true, beq_iff_eq]
  rfl

/-- The numbers of R165 to R169 are the write path. -/
theorem specMstatus_eq {c : Config} (hc : c.isThisHardware = true) (old v : Word) :
    specMstatus c old v = mstatusWritten c old v := by
  unfold specMstatus mstatusWritten mstatusWriteMask
  dsimp only
  rw [recomputeSd_eq, forceDirty_eq]
  simp only [mppUnsupported_iff]
  rw [wmask_eq]
  · rfl
  · intro hver
    split
    · exact validateVm_legacy32 hc hver v ‹_›
    · exact validateVm_legacy64 hc hver v ‹_›

/-- R170. -/
theorem specFlush_eq (c : Config) (old new : Word) :
    specFlush c old new = if mstatusFlushes c old new then [.invalidate] else [] := by
  have hmask : specFlush c old new = if (new ^^^ old) &&& flushMask c.privVer = 0 then [] else [.invalidate] := by
    unfold specFlush
    cases c.privVer <;> rfl
  rw [hmask, ← ite_not]
  simp only [mstatusFlushes, hasFlag, bne_iff_ne, ne_eq]

/-- R28. -/
theorem specSstatusMask_eq (c : Config) : specSstatusMask c = sstatusMask c := by
  unfold specSstatusMask sstatusMask
  cases c.privVer <;> cases c.xlen <;> rfl

/-! ### Accesses (R164, R165, R172, R173) -/

/-- The entry reads `prior` and writes `val` of the merged value by the write path of the status word. -/
theorem accessRegister_status {n : BitVec 12} {nv wm : Word} {s : State} {p : Priv}
    {r : BitVec 12 → State → Except CsrError (Word × State)} {w : BitVec 12 → Word → State → Except CsrError State}
    (h : reaches s p) (hp : requiredPrivilege n = p.code) (hn : isReadOnly n = false)
    (he : accessorEntry s.cfg n = some (.readWrite r w)) {prior : Word} (val : Word → Word)
    (hr : r n s.clearOutput = .ok (prior, s.clearOutput))
    (hw : ∀ v, w n v s.clearOutput = .ok (writeMstatus (val v) s.clearOutput)) :
    accessRegister n nv wm s =
      let new := mstatusWritten s.cfg s.bank.mstatus (val (merged s prior nv wm))
      if pureRead s wm then accessDone s prior s.bank []
      else accessDone s prior { s.bank with mstatus := new }
        (if mstatusFlushes s.cfg s.bank.mstatus new then [.invalidate] else []) := by
  have hcore := accessCore_readWrite (nv := nv) (wm := wm) h hp hn he
  dsimp only
  split
  · rename_i hread
    have hmask : s.cfg.xlen.trunc wm = 0 := hread
    have hrun := plainAccess_pureRead n (s.cfg.xlen.trunc nv) s.clearOutput r w prior _ hr
    exact accessRegister_ok n nv wm s prior _ (hcore.trans (hmask ▸ hrun))
  · rename_i hwrite
    have hrun := plainAccess_write n (s.cfg.xlen.trunc nv) _ _ r w prior _ _ hr hwrite (hw _)
    rw [accessRegister_ok n nv wm s prior _ (hcore.trans hrun), writeMstatus_eq]
    rfl

/-- Settles O23: the entry reads the word and runs the write path, whose numbers are those of `specMstatus`. -/
theorem mstatusAccess : Obligations.MstatusAccess := by
  intro s nv wm h hc
  dsimp only
  rw [specFlush_eq, specMstatus_eq hc]
  exact congrArg Host.Outcome.next
    (accessRegister_status h rfl rfl (entry_mstatus _ h.1) (fun v => v) rfl (fun _ => rfl))

/-- Settles O24: the masked bits are merged into mstatus, whose write path runs. -/
theorem sstatusAccess : Obligations.SstatusAccess := by
  intro s nv wm h hc
  dsimp only
  rw [specFlush_eq, specMstatus_eq hc, specSstatusMask_eq]
  exact congrArg Host.Outcome.next (accessRegister_status h rfl rfl (entry_sstatus _ h.1)
    (fun v => maskedWrite s.bank.mstatus v (sstatusMask s.cfg)) rfl (fun _ => rfl))

/-! ### FS after a write (R168) -/

/-- No write mask leaves FS out (R166, R167). -/
theorem mstatusWriteMask_fs (c : Config) (v : Word) : mstatusWriteMask c v &&& mstatusFS = mstatusFS := by
  have hwmask : wmask c v = wmaskBase ∨ wmask c v = wmaskBase ||| mstatusVM := by
    unfold wmask
    split
    · exact .inl rfl
    · split
      · exact .inr rfl
      · exact .inl rfl
  unfold mstatusWriteMask
  split <;> obtain h | h := hwmask <;> rw [h] <;> rfl

/-- R168 on FS alone. -/
theorem forceDirty_and_fs (v : Word) : forceDirty v &&& mstatusFS = if v &&& mstatusFS = 0 then 0 else mstatusFS := by
  simp only [forceDirty, fsOff, beq_iff_eq]
  split
  · assumption
  · exact or_and_cancel v mstatusFS

/-- The write path takes FS from the written value and makes it Dirty unless it is Off. -/
theorem mstatusWritten_fs (c : Config) (old v : Word) : mstatusWritten c old v &&& mstatusFS =
    if v &&& mstatusFS = 0 then 0 else mstatusFS := by
  have hsd : mstatusSD c.xlen &&& mstatusFS = 0 := by cases c.xlen <;> rfl
  have hmerged : maskedWrite old v (mstatusWriteMask c v) &&& mstatusFS = v &&& mstatusFS := by
    rw [← mstatusWriteMask_fs c v, ← BitVec.and_assoc, ← BitVec.and_assoc, maskedWrite_inside]
  calc mstatusWritten c old v &&& mstatusFS
      = forceDirty (maskedWrite old v (mstatusWriteMask c v)) &&& mstatusFS := setFlag_and_of_disjoint _ _ hsd
    _ = if v &&& mstatusFS = 0 then 0 else mstatusFS := by rw [forceDirty_and_fs, hmerged]

/-- Settles O25: no table and no mask of R6 has a part in FS and SD. -/
theorem statusWriteForcesDirtyAndSummary : Obligations.StatusWriteForcesDirtyAndSummary := by
  intro s nv wm h hwrite
  have hacc : (accessRegister 0x300 nv wm s).bank.mstatus =
      mstatusWritten s.cfg s.bank.mstatus (merged s s.bank.mstatus nv wm) := by
    rw [accessRegister_status h rfl rfl (entry_mstatus _ h.1) (fun v => v) rfl (fun _ => rfl)]
    simp only [if_neg hwrite]
    rfl
  have hfs := mstatusWritten_fs s.cfg s.bank.mstatus (merged s s.bank.mstatus nv wm)
  refine ⟨_, rfl, ?_, fun hon => ?_, fun hoff => ?_⟩ <;> rw [hacc]
  · exact statusNormal_mstatusWritten _ _ _
  · exact hfs.trans (if_neg hon)
  · exact hfs.trans (if_pos hoff)

end Sys2Proof.Machine
end

section
/-! SUPPORT. The translation root (R210 to R213) and the registers of the PMP table (R214 to R216). -/

namespace Sys2Proof.Machine

/-- The parameters of R6 that the translation root and the PMP numbers depend on. -/
theorem translationParameters_of_thisHardware {c : Config} (hc : c.isThisHardware = true) :
    c.legalVmCurrent = Config.defaultCurrentVm c.xlen ∧ c.paBits = Config.defaultPaBits c.xlen
      ∧ c.pmpCfgCount = 4 ∧ c.pmpAddrCount = 16 := by
  have hvalues := ((isThisHardware_iff c).mp hc).2
  simp only [Config.hasRecordedValues, Bool.and_eq_true, beq_iff_eq] at hvalues
  simp only [hvalues, and_self]

/-! ### Accesses whose accessors move more than the bank (R127, R128) -/

section ReadWrite

variable {n : BitVec 12} {nv wm : Word} {s : State} {p : Priv}
  {r : BitVec 12 → State → Except CsrError (Word × State)} {w : BitVec 12 → Word → State → Except CsrError State}
  (h : reaches s p) (hp : requiredPrivilege n = p.code) (hn : isReadOnly n = false)
  (he : accessorEntry s.cfg n = some (.readWrite r w)) {prior : Word}

include h hp hn he

/-- A pure read ends where the read accessor ends, any other access where the write accessor ends on the merged value. -/
theorem accessRegister_readWrite {t u : State} (hr : r n s.clearOutput = .ok (prior, t))
    (hw : w n (merged s prior nv wm) t = .ok u) : accessRegister n nv wm s =
      if pureRead s wm then { t with result := some (.success prior) }
      else { u with result := some (.success prior) } := by
  have hcore := accessCore_readWrite (nv := nv) (wm := wm) h hp hn he
  split
  · rename_i hread
    have hmask : s.cfg.xlen.trunc wm = 0 := hread
    exact accessRegister_ok n nv wm s prior t (hcore.trans (hmask ▸ plainAccess_pureRead n _ _ r w prior t hr))
  · rename_i hwrite
    exact accessRegister_ok n nv wm s prior u (hcore.trans (plainAccess_write n _ _ _ r w prior t u hr hwrite hw))

/-- With an empty mask the merged value is the prior one, so a `store` that leaves that alone covers the pure read. -/
theorem accessRegister_stored (store : Word → State → State) (hr : r n s.clearOutput = .ok (prior, s.clearOutput))
    (hw : ∀ v, w n v s.clearOutput = .ok (store v s.clearOutput))
    (hstore : store prior s.clearOutput = s.clearOutput) : accessRegister n nv wm s =
      { store (merged s prior nv wm) s.clearOutput with result := some (.success prior) } := by
  rw [accessRegister_readWrite h hp hn he hr (hw _)]
  split
  · rw [merged_of_pureRead ‹_›, hstore]
  · rfl

/-- The entry draws `prior` with the call `read`; unless the mask is empty it then makes the call `write` (R214, R215). -/
theorem accessRegister_pmp {read : Event} (write : Word → Event)
    (hr : r n s.clearOutput = .ok (prior, s.clearOutput.drawn.emit read))
    (hw : ∀ v t, w n v t = .ok (t.emit (write v))) : accessRegister n nv wm s =
      pmpDone s prior (if pureRead s wm then [read] else [read, write (merged s prior nv wm)]) := by
  rw [accessRegister_readWrite h hp hn he hr (hw _ _)]
  split <;> rfl

end ReadWrite

/-! ### The translation root, current version (R40, R135, R211) -/

/-- A merge changes no bit outside the mask of the port. -/
theorem merged_xor (s : State) (old nv wm : Word) :
    merged s old nv wm ^^^ old = (s.cfg.xlen.trunc nv ^^^ old) &&& s.cfg.xlen.trunc wm := by
  ext i hi
  cases hm : (s.cfg.xlen.trunc wm)[i] <;> simp [merged, hm]

/-- The three fields of `satp` are all its bits (R40). -/
theorem satpFields_eq_ones (x : Xlen) : satpFields x = x.ones := by cases x <;> rfl

/-- A merge that changes the word changes a field of `satp`: on RV32 it does not reach bits 63:32. -/
theorem hasFlag_satpFields_merged (s : State) (old nv wm : Word) :
    hasFlag (merged s old nv wm ^^^ old) (satpFields s.cfg.xlen) = true ↔ merged s old nv wm ≠ old := by
  have hfits : Word.fits s.cfg.xlen (merged s old nv wm ^^^ old) = true := by
    rw [merged_xor]
    exact fits_and_right _ (trunc_fits _ _)
  have hones : (merged s old nv wm ^^^ old) &&& s.cfg.xlen.ones = merged s old nv wm ^^^ old := (fits_iff _ _).mp hfits
  rw [hasFlag, satpFields_eq_ones, hones, bne_iff_ne]
  exact not_congr BitVec.xor_eq_zero_iff

section CurrentModes

variable {c : Config} (hc : c.isThisHardware = true) (hver : c.privVer = .v1_10_0) (v : Word)

include hc hver

/-- R135: on RV32 both values of the mode bit are legal. -/
theorem validateVm_current32 (hx : c.xlen = .rv32) : validateVm c (satpMode c.xlen v) = true := by
  have htable : ∀ m : BitVec 1, (Config.defaultCurrentVm .rv32)[(m.setWidth 4).toNat]'(m.setWidth 4).isLt = true := by
    decide
  simp only [validateVm, satpMode, hver, (translationParameters_of_thisHardware hc).1, hx]
  exact htable _

/-- R135: on RV64 the modes 0, 8, 9 and 10 are legal. -/
theorem validateVm_current64 (hx : c.xlen = .rv64) : validateVm c (satpMode c.xlen v) =
    (v >>> 60 == 0 || v >>> 60 == 8 || v >>> 60 == 9 || v >>> 60 == 10) := by
  have htable : ∀ m : BitVec 4, (Config.defaultCurrentVm .rv64)[m.toNat] =
      (m.setWidth 64 == 0#64 || m.setWidth 64 == 8#64 || m.setWidth 64 == 9#64 || m.setWidth 64 == 10#64) := by decide
  have hmode : v >>> 60 = (v.extractLsb' 60 4).setWidth 64 := by
    apply BitVec.eq_of_toNat_eq
    rw [BitVec.toNat_ushiftRight, BitVec.toNat_setWidth, BitVec.extractLsb'_toNat, Nat.shiftRight_eq_div_pow]
    omega
  simp only [validateVm, satpMode, hver, (translationParameters_of_thisHardware hc).1, hx, hmode]
  exact htable _

end CurrentModes

section Root

variable {s : State} (h : reaches s .s) (hmmu : s.cfg.hasMmu = true) (nv wm : Word)

include h hmmu

/-- The current version stores a change whose mode is legal. -/
theorem accessRegister_satp (hver : s.cfg.privVer = .v1_10_0) :
    let v := merged s s.bank.satp nv wm
    accessRegister 0x180 nv wm s =
      if validateVm s.cfg (satpMode s.cfg.xlen v) = true ∧ v ≠ s.bank.satp then
        accessDone s s.bank.satp { s.bank with satp := v } [.invalidate]
      else accessDone s s.bank.satp s.bank [] := by
  dsimp only
  rw [accessRegister_stored (prior := s.bank.satp) h rfl rfl (entry_satp _ h.1) storeSatp
    (by simp [readSatp, hmmu, hver]) (by simp [writeSatp, hmmu, hver]) (storeSatp_self s.clearOutput)]
  simp only [storeSatp, clearOutput_cfg, clearOutput_bank, Bool.and_eq_true, hasFlag_satpFields_merged]
  split <;> rfl

/-- The legacy version stores any change under its width mask. -/
theorem accessRegister_sptbr (hver : s.cfg.privVer = .v1_9_1) :
    let v := merged s s.bank.sptbr nv wm
    accessRegister 0x180 nv wm s =
      if v ≠ s.bank.sptbr then
        accessDone s s.bank.sptbr { s.bank with sptbr := v &&& sptbrMask s.cfg } [.invalidate]
      else accessDone s s.bank.sptbr s.bank [] := by
  dsimp only
  rw [accessRegister_stored (prior := s.bank.sptbr) h rfl rfl (entry_satp _ h.1) storeSptbr
    (by simp [readSatp, hmmu, hver]) (by simp [writeSatp, hmmu, hver]) (storeSptbr_self s.clearOutput), ite_not]
  simp only [storeSptbr, clearOutput_cfg, clearOutput_bank]
  split <;> rfl

end Root

/-- Settles O33: the model's legal modes are those of R135, width by width. -/
theorem translationRootCurrent : Obligations.TranslationRootCurrent := by
  intro s nv wm h hc hmmu hver
  refine congrArg Host.Outcome.next ((accessRegister_satp h hmmu nv wm hver).trans
    (if_congr (and_comm.trans (and_congr_right fun _ => ?_)) rfl rfl))
  split
  · rw [validateVm_current32 hc hver _ ‹_›]
  · rw [validateVm_current64 hc hver _ ‹_›]

/-! ### The translation root, legacy version and absent (R41, R212, R213) -/

/-- R41 at the address widths of R6. -/
theorem sptbrMask_of_thisHardware {c : Config} (hc : c.isThisHardware = true) :
    (c.xlen = .rv32 → sptbrMask c = 0x3FFFFF) ∧ (c.xlen = .rv64 → sptbrMask c = 0x3FFFFFFFFF) := by
  obtain ⟨-, hbits, -⟩ := translationParameters_of_thisHardware hc
  constructor <;> intro hx <;> rw [sptbrMask, hbits, hx] <;> rfl

/-- Settles O34: the legacy version stores under the mask of R41; with translation absent the value is 0 and the write
accessor does nothing. -/
theorem translationRootLegacyAndAbsent : Obligations.TranslationRootLegacyAndAbsent := by
  refine ⟨fun s nv wm h hc hmmu hver => ?_, fun s nv wm h hmmu => ?_⟩ <;> refine congrArg Host.Outcome.next ?_
  · obtain ⟨hmask32, hmask64⟩ := sptbrMask_of_thisHardware hc
    rw [accessRegister_sptbr h hmmu nv wm hver]
    cases hx : s.cfg.xlen with
    | rv32 => rw [hmask32 hx]
    | rv64 => rw [hmask64 hx]
  · exact accessRegister_field h rfl rfl (entry_satp _ h.1) (fun _ => s.bank) (if_neg (ne_true_of_eq_false hmmu))
      (fun _ => if_neg (ne_true_of_eq_false hmmu)) rfl

/-! ### The PMP table (R214, R215) -/

section PmpNumbers

variable {i : Instr} {k : Nat} {nv wm : Word} {s : State} (h : reaches s .m) (hc : s.cfg.isThisHardware = true)

include h hc

/-- A config register of the table, by its index. -/
theorem exec_pmpCfg (hk : k < 4) (hi : encode i = .call (BitVec.ofNat 12 (pmpCfgBase + k)) nv wm) :
    let r := s.cfg.xlen.trunc (Config.pmpCfgValue s.draws k)
    exec i s = .next (pmpDone s r
      (if pureRead s wm then [.pmpCfgRead k] else [.pmpCfgRead k, .pmpCfgWrite k (merged s r nv wm)])) := by
  have hnumber : ∀ k < 4, let n := BitVec.ofNat 12 (pmpCfgBase + k)
      requiredPrivilege n = Priv.m.code ∧ isReadOnly n = false ∧ 0x3A0 ≤ n.toNat ∧ n.toNat ≤ 0x3A3
        ∧ blockIndex n pmpCfgBase = k := by decide
  obtain ⟨hlevel, hwritable, hfirst, hlast, hindex⟩ := hnumber k hk
  obtain ⟨-, -, hcfgs, haddrs⟩ := translationParameters_of_thisHardware hc
  rw [exec_of_encode_call s hi]
  exact congrArg Host.Outcome.next (accessRegister_pmp h hlevel hwritable
    (entry_pmpcfg _ h.1 hcfgs haddrs _ hfirst hlast) (.pmpCfgWrite k) (by rw [readPmpCfg, hindex]; rfl)
    (fun _ _ => by rw [writePmpCfg, hindex]; rfl))

/-- An address register of the table, by its index. -/
theorem exec_pmpAddr (hk : k < 16) (hi : encode i = .call (BitVec.ofNat 12 (pmpAddrBase + k)) nv wm) :
    let r := s.cfg.xlen.trunc (Config.pmpAddrValue s.draws k)
    exec i s = .next (pmpDone s r
      (if pureRead s wm then [.pmpAddrRead k] else [.pmpAddrRead k, .pmpAddrWrite k (merged s r nv wm)])) := by
  have hnumber : ∀ k < 16, let n := BitVec.ofNat 12 (pmpAddrBase + k)
      requiredPrivilege n = Priv.m.code ∧ isReadOnly n = false ∧ 0x3B0 ≤ n.toNat ∧ n.toNat ≤ 0x3BF
        ∧ blockIndex n pmpAddrBase = k := by decide
  obtain ⟨hlevel, hwritable, hfirst, hlast, hindex⟩ := hnumber k hk
  obtain ⟨-, -, hcfgs, haddrs⟩ := translationParameters_of_thisHardware hc
  rw [exec_of_encode_call s hi]
  exact congrArg Host.Outcome.next (accessRegister_pmp h hlevel hwritable
    (entry_pmpaddr _ h.1 hcfgs haddrs _ hfirst hlast) (.pmpAddrWrite k) (by rw [readPmpAddr, hindex]; rfl)
    (fun _ _ => by rw [writePmpAddr, hindex]; rfl))

end PmpNumbers

/-- Settles O35: each of the four has the number of its index in the block. -/
theorem pmpConfigRegisters : Obligations.PmpConfigRegisters := by
  intro s nv wm h hc p hp
  have hnumber : p.1 < 4 ∧ encode p.2 = .call (BitVec.ofNat 12 (pmpCfgBase + p.1)) nv wm := by
    fin_cases hp <;> exact ⟨by simp, rfl⟩
  exact exec_pmpCfg h hc hnumber.1 hnumber.2

/-- Settles O36: each of the sixteen has the number of its index in the block. -/
theorem pmpAddressRegisters : Obligations.PmpAddressRegisters := by
  intro s nv wm h hc p hp
  have hnumber : p.1 < 16 ∧ encode p.2 = .call (BitVec.ofNat 12 (pmpAddrBase + p.1)) nv wm := by
    fin_cases hp <;> exact ⟨by simp, rfl⟩
  exact exec_pmpAddr h hc hnumber.1 hnumber.2

end Sys2Proof.Machine
end

section
/-! SUPPORT. The last count returned (D26, R241): no access, no trap and no other input lets it fall. -/

namespace Sys2Proof.Machine

/-! ### Accessors -/

/-- The write accessor leaves the last count as it is. -/
def WriteKeepsCount (w : BitVec 12 → Word → State → Except CsrError State) : Prop :=
  ∀ n v s t, w n v s = .ok t → t.count = s.count

/-- An access through the entry does not let the last count fall. -/
def Entry.CountMonotone (e : Entry) : Prop :=
  ∀ n nv wm s p t, e.run n nv wm s = .ok (p, t) → s.count ≤ t.count

section Accessors

variable {r : BitVec 12 → State → Except CsrError (Word × State)}
  {w : BitVec 12 → Word → State → Except CsrError State}

theorem SilentRead.countMonotone (h : SilentRead r) : (Entry.read r).CountMonotone := by
  intro n _ _ s p t hrun
  rw [h n s p t hrun]
  exact BitVec.le_refl _

/-- R127 to R130: the write that follows the read adds nothing. -/
theorem readWrite_countMonotone (hr : (Entry.read r).CountMonotone) (hw : WriteKeepsCount w) :
    (Entry.readWrite r w).CountMonotone := by
  intro n nv wm s p t h
  obtain ⟨u, hread, hwrite⟩ := plainAccess_ok h
  have hu := hr n nv wm s p u hread
  obtain rfl | hwrite := hwrite
  · exact hu
  · rwa [hw _ _ _ _ hwrite]

/-- The entry of a field of the bank: unless it fails, its write replaces the bank (R150, R159, R174, R181, R260). -/
theorem fieldEntry_countMonotone (hr : SilentRead r)
    (hw : ∀ n v s, (∃ b, w n v s = .ok (s.setBank b)) ∨ ∃ k, w n v s = .error k) :
    (Entry.readWrite r w).CountMonotone := by
  refine readWrite_countMonotone hr.countMonotone (fun n v s t h => ?_)
  obtain ⟨b, hb⟩ | ⟨k, hk⟩ := hw n v s
  · cases hb.symm.trans h
    exact setBank_count s b
  · cases hk.symm.trans h

/-- The entry of a field that both versions have: neither accessor fails. -/
theorem plainField_countMonotone (hr : SilentRead r) (hw : ∀ n v s, ∃ b, w n v s = .ok (s.setBank b)) :
    (Entry.readWrite r w).CountMonotone :=
  fieldEntry_countMonotone hr (fun n v s => .inl (hw n v s))

end Accessors

/-- R160. -/
theorem mcounteren_countMonotone : (Entry.readWrite readMcounteren writeMcounteren).CountMonotone :=
  fieldEntry_countMonotone mcounteren_writesBack.silent
    (fun _ _ s => by cases h : s.cfg.privVer <;> simp [writeMcounteren, h])

/-- R161. -/
theorem scounteren_countMonotone : (Entry.readWrite readScounteren writeScounteren).CountMonotone :=
  fieldEntry_countMonotone scounteren_writesBack.silent
    (fun _ _ s => by cases h : s.cfg.privVer <;> simp [writeScounteren, h])

/-- R162. -/
theorem mucounteren_countMonotone : (Entry.readWrite readMucounteren writeMucounteren).CountMonotone :=
  fieldEntry_countMonotone mucounteren_writesBack.silent
    (fun _ _ s => by cases h : s.cfg.privVer <;> simp [writeMucounteren, h])

/-- R163. -/
theorem mscounteren_countMonotone : (Entry.readWrite readMscounteren writeMscounteren).CountMonotone :=
  fieldEntry_countMonotone mscounteren_writesBack.silent
    (fun _ _ s => by cases h : s.cfg.privVer <;> simp [writeMscounteren, h])

/-- R262. -/
theorem fflags_countMonotone : (Entry.readWrite readFflags writeFflags).CountMonotone :=
  fieldEntry_countMonotone readFflags_silent
    (fun _ _ s => by cases h : fpDenied s <;> simp [writeFflags, h])

/-- R263. -/
theorem frm_countMonotone : (Entry.readWrite readFrm writeFrm).CountMonotone :=
  fieldEntry_countMonotone readFrm_silent
    (fun _ _ s => by cases h : fpDenied s <;> simp [writeFrm, h])

/-- R264. -/
theorem fcsr_countMonotone : (Entry.readWrite readFcsr writeFcsr).CountMonotone :=
  fieldEntry_countMonotone readFcsr_silent
    (fun _ _ s => by cases h : fpDenied s <;> simp [writeFcsr, h])

@[simp] theorem writeMstatus_count (v : Word) (s : State) : (writeMstatus v s).count = s.count := by
  rw [writeMstatus_eq]

@[simp] theorem storeSptbr_count (v : Word) (s : State) : (storeSptbr v s).count = s.count := by
  unfold storeSptbr
  split <;> rfl

@[simp] theorem storeSatp_count (v : Word) (s : State) : (storeSatp v s).count = s.count := by
  unfold storeSatp
  split <;> rfl

/-- R164, R165. -/
theorem mstatus_countMonotone : (Entry.readWrite readMstatus writeMstatusCsr).CountMonotone :=
  readWrite_countMonotone silentRead_of_value.countMonotone
    (fun _ v s _ h => by cases h; exact writeMstatus_count v s)

/-- R172, R173. -/
theorem sstatus_countMonotone : (Entry.readWrite readSstatus writeSstatus).CountMonotone :=
  readWrite_countMonotone silentRead_of_value.countMonotone
    (fun _ _ s _ h => by cases h; exact writeMstatus_count _ s)

/-- R210 to R213. -/
theorem satp_countMonotone : (Entry.readWrite readSatp writeSatp).CountMonotone := by
  refine readWrite_countMonotone satp_writesBack.silent.countMonotone (fun _ v s t h => ?_)
  unfold writeSatp at h
  split at h
  · split at h <;> cases h
    · exact storeSptbr_count v s
    · exact storeSatp_count v s
  · cases h
    rfl

/-- R214: the draw is of the table, not of the count. -/
theorem pmpCfg_countMonotone : (Entry.readWrite readPmpCfg writePmpCfg).CountMonotone :=
  readWrite_countMonotone (fun _ _ _ s _ _ h => by cases h; exact BitVec.le_refl s.count)
    (fun _ _ _ _ h => by cases h; rfl)

/-- R215: the draw is of the table, not of the count. -/
theorem pmpAddr_countMonotone : (Entry.readWrite readPmpAddr writePmpAddr).CountMonotone :=
  readWrite_countMonotone (fun _ _ _ s _ _ h => by cases h; exact BitVec.le_refl s.count)
    (fun _ _ _ _ h => by cases h; rfl)

theorem readUserCount_countMonotone : (Entry.read readUserCount).CountMonotone :=
  fun _ _ _ s _ _ h => by cases h; exact count_le_nextCount s

theorem readUserCounth_countMonotone : (Entry.read readUserCounth).CountMonotone :=
  fun _ _ _ s _ _ h => by cases h; exact count_le_nextCount s

/-- R241: past the counter check. -/
theorem readGatedCount_countMonotone : (Entry.read readGatedCount).CountMonotone := by
  intro _ _ _ s p t h
  simp only [run_read, readGatedCount] at h
  split at h <;> cases h
  exact count_le_nextCount s

/-- R243: past the counter check. -/
theorem readGatedCounth_countMonotone : (Entry.read readGatedCounth).CountMonotone := by
  intro _ _ _ s p t h
  simp only [run_read, readGatedCounth] at h
  split at h <;> cases h
  exact count_le_nextCount s

@[simp] theorem controllerFinish_count (s : State) : (controllerFinish s).count = s.count := by
  obtain ⟨p, l, h, -⟩ := controllerFinish_eq s
  rw [h]

/-- R179: the calls are of the lock and the pending word. -/
theorem rmwMip_countMonotone : (Entry.combinedRmw rmwMip).CountMonotone := by
  intro n nv wm s p t h
  simp only [run_combined, rmwMip] at h
  split at h <;> cases h
  · exact BitVec.le_refl s.count
  · exact BitVec.le_of_eq (controllerFinish_count s).symm

/-- R180. -/
theorem rmwSip_countMonotone : (Entry.combinedRmw rmwSip).CountMonotone :=
  fun n nv wm s => rmwMip_countMonotone n nv (wm &&& s.bank.mideleg) s

/-! ### The table (R99, R141) -/

theorem lowerRows_countMonotone : ∀ row ∈ lowerRows, row.entry.CountMonotone := by
  simp only [lowerRows, List.forall_mem_cons]
  refine ⟨fflags_countMonotone, frm_countMonotone, fcsr_countMonotone, sstatus_countMonotone, ?_, ?_,
    scounteren_countMonotone, ?_, ?_, ?_, ?_, rmwSip_countMonotone, satp_countMonotone, List.forall_mem_nil _⟩
  -- The rows left are fields of the bank that no version and no mode gates.
  all_goals exact plainField_countMonotone silentRead_of_value (fun _ _ _ => ⟨_, rfl⟩)

theorem machineRows_countMonotone : ∀ row ∈ machineRows, row.entry.CountMonotone := by
  simp only [machineRows, List.forall_mem_cons]
  refine ⟨mstatus_countMonotone, silentRead_of_value.countMonotone, ?_, ?_, ?_, ?_, mcounteren_countMonotone,
    mucounteren_countMonotone, mscounteren_countMonotone, silentRead_of_value.countMonotone, ?_, ?_, ?_, ?_,
    rmwMip_countMonotone, List.forall_mem_nil _⟩
  -- The rows left are fields of the bank that no version and no mode gates.
  all_goals exact plainField_countMonotone silentRead_of_value (fun _ _ _ => ⟨_, rfl⟩)

theorem counterRows_countMonotone : ∀ row ∈ counterRows, row.entry.CountMonotone := by
  simp only [counterRows, List.forall_mem_cons]
  refine ⟨readGatedCount_countMonotone, readGatedCount_countMonotone, ?_, readGatedCounth_countMonotone,
    readGatedCounth_countMonotone, ?_, readGatedCount_countMonotone, readGatedCount_countMonotone,
    readGatedZero_silent.countMonotone, readGatedCounth_countMonotone, readGatedCounth_countMonotone,
    readGatedZero_silent.countMonotone, ?_, ?_, ?_, ?_, List.forall_mem_nil _⟩
  -- The rows left are read without a test, and read no count.
  all_goals exact silentRead_of_value.countMonotone

theorem pmpRows_countMonotone (c : Config) : ∀ row ∈ pmpRows c, row.entry.CountMonotone := by
  simp only [pmpRows, List.forall_mem_cons]
  exact ⟨pmpCfg_countMonotone, pmpAddr_countMonotone, List.forall_mem_nil _⟩

theorem userRows_countMonotone : ∀ row ∈ userRows, row.entry.CountMonotone := by
  simp only [userRows, List.forall_mem_cons]
  exact ⟨fflags_countMonotone, frm_countMonotone, fcsr_countMonotone, readUserCount_countMonotone,
    readUserCount_countMonotone, readUserCount_countMonotone, readUserCounth_countMonotone,
    readUserCounth_countMonotone, readUserCounth_countMonotone, List.forall_mem_nil _⟩

theorem tableRows_countMonotone (c : Config) : ∀ row ∈ tableRows c, row.entry.CountMonotone := by
  intro row hrow
  unfold tableRows at hrow
  split at hrow
  · simp only [List.mem_append] at hrow
    obtain ((h | h) | h) | h := hrow
    · exact lowerRows_countMonotone row h
    · exact machineRows_countMonotone row h
    · exact counterRows_countMonotone row h
    · exact pmpRows_countMonotone c row h
  · exact userRows_countMonotone row hrow

/-! ### Steps -/

theorem count_le_accessRegister (n : BitVec 12) (nv wm : Word) (s : State) :
    s.count ≤ (accessRegister n nv wm s).count := by
  obtain ⟨p, t, hcore, h⟩ | ⟨k, -, h⟩ := accessRegister_cases n nv wm s <;> rw [h]
  · obtain ⟨row, hrow, -, hrun⟩ := row_of_accessCore_ok hcore
    exact tableRows_countMonotone _ row hrow _ _ _ s.clearOutput p t hrun
  · exact BitVec.le_refl s.count

@[simp] theorem takeTrap_count (c : TrapCause) (tval : Word) (s : State) : (takeTrap c tval s).count = s.count := by
  rw [takeTrap_frame]

@[simp] theorem illegalInstruction_count (s : State) : (illegalInstruction s).count = s.count := takeTrap_count _ _ _

@[simp] theorem takeInterrupt_count (s : State) : (takeInterrupt s).count = s.count := by
  unfold takeInterrupt
  split
  · exact takeTrap_count _ _ _
  · rfl

@[simp] theorem controllerBegin_count (m v : BitVec 32) (s : State) : (controllerBegin m v s).count = s.count :=
  controllerFinish_count s

@[simp] theorem trapPortWrite_count (w : TrapPortWrite) (s : State) : (trapPortWrite w s).count = s.count := by
  cases w <;> rfl

@[simp] theorem retire_count (rd : BitVec 5) (s : State) : (retire rd s).count = s.count := by
  unfold retire
  split <;> simp

/-- The port runs accesses and CSR instructions only: one access each (R94, R96). -/
theorem runPort_countMonotone {p : PortWord} {s t : State} (h : runPort p s = .next t) : s.count ≤ t.count := by
  obtain ⟨n, nv, wm, rfl⟩ | ⟨csr, c, rd, rfl⟩ := runPort_next h
  · exact count_le_accessRegister n nv wm s
  · rw [csrInstruction, retire_count]
    exact count_le_accessRegister csr c.newValue c.writeMask s

/-- An input that is no access does not call `CurrentCount()`. -/
theorem runInput_countMonotone {i : Input} {s t : State} (h : runInput i s = .next t) : s.count ≤ t.count := by
  cases i with
  | insn _ | call _ _ _ => exact runPort_countMonotone h
  | mret | sret =>
    simp only [runInput] at h
    split at h <;> cases h
    exact BitVec.le_refl s.count
  | _ =>
    cases h
    simp [fpuSetFlags, threadReset]

/-- Settles O20: a count is drawn not below the last one, and nothing but an access draws one. -/
theorem countNeverFalls : Obligations.CountNeverFalls := by
  intro s t h
  obtain rfl | ⟨i, rest, -, hi⟩ := step_next h
  · exact BitVec.le_refl _
  · exact (runInput_countMonotone hi :)

end Sys2Proof.Machine
end

section
/-! SUPPORT. Reads of the counters and of their stand-ins (R235 to R248). -/

namespace Sys2Proof.Machine

/-! ### Counters that read 0 at M (R238 to R240) -/

/-- A machine-level register that reads 0 discards every write (R129). -/
theorem exec_readZero {i : Instr} {n : BitVec 12} {nv wm : Word} {s : State} (h : reaches s .m)
    (hi : encode i = .call n nv wm) (hp : requiredPrivilege n = Priv.m.code) (hn : isReadOnly n = false)
    (he : accessorEntry s.cfg n = some (.read readZero)) : exec i s = .next (accessDone s 0 s.bank []) := by
  rw [exec_of_encode_call s hi, accessRegister_read (gateDenies_of_reaches _ h hp hn) he rfl]

/-- Settles O37: each of the 58 has a number of one of two blocks, whose entry reads 0. -/
theorem eventSelectorsAndMachineCountersReadZero : Obligations.EventSelectorsAndMachineCountersReadZero := by
  intro s nv wm h i hi
  have hnumber : ∃ n, encode i = .call n nv wm ∧ requiredPrivilege n = Priv.m.code ∧ isReadOnly n = false ∧
      (0x323 ≤ n.toNat ∧ n.toNat ≤ 0x33F ∨ 0xB03 ≤ n.toNat ∧ n.toNat ≤ 0xB1F) := by
    fin_cases hi <;> exact ⟨_, rfl, rfl, rfl, by decide⟩
  obtain ⟨n, hcall, hlevel, hwritable, ⟨hfirst, hlast⟩ | ⟨hfirst, hlast⟩⟩ := hnumber
  · exact exec_readZero h hcall hlevel hwritable (entry_mhpmevent _ h.1 n hfirst hlast)
  · exact exec_readZero h hcall hlevel hwritable (entry_mhpmcounter _ h.1 n hfirst hlast)

/-- Settles O38: the 29 are one block, whose entry reads 0. -/
theorem machineCounterHighHalvesReadZero : Obligations.MachineCounterHighHalvesReadZero := by
  intro s nv wm h hx i hi
  have hnumber : ∃ n, encode i = .call n nv wm ∧ requiredPrivilege n = Priv.m.code ∧ isReadOnly n = false ∧
      0xB83 ≤ n.toNat ∧ n.toNat ≤ 0xB9F := by
    fin_cases hi <;> exact ⟨_, rfl, rfl, rfl, by decide⟩
  obtain ⟨n, hcall, hlevel, hwritable, hfirst, hlast⟩ := hnumber
  exact exec_readZero h hcall hlevel hwritable (entry_mhpmcounterh _ h.1 hx n hfirst hlast)

/-! ### The counter check (R235) -/

/-- The check fails exactly when the bit `csrno & 31` of the level's enable word is clear. -/
theorem counterDenied_eq (n : BitVec 12) (s : State) : counterDenied n s = !counterEnabled s (enableIndex n) := by
  have hindex : enableIndex n < 32 := by
    have hle : enableIndex n ≤ 31 := by
      rw [enableIndex, BitVec.toNat_and]
      exact Nat.and_le_right
    omega
  unfold counterDenied counterEnabled enableWord
  cases s.bank.priv with
  | u | s => simp [hindex]
  | m =>
    have hones : (0xFFFFFFFF : BitVec 32) = BitVec.allOnes 32 := rfl
    dsimp only
    rw [hones, BitVec.getLsbD_allOnes, decide_eq_true hindex]

/-- Machine level passes the check. -/
theorem counterEnabled_of_machine {s : State} (h : reaches s .m) (k : Nat) : counterEnabled s k = true := by
  obtain ⟨-, hlevel⟩ := h
  unfold counterEnabled
  cases hp : s.bank.priv with
  | u | s => simp [hp, Priv.code] at hlevel
  | m => rfl

/-- Gating lets a pure read of a user-level number pass at every level (R122). -/
theorem gateDenies_of_userRead {n : BitVec 12} {wm : Word} {s : State} (hread : pureRead s wm)
    (hp : requiredPrivilege n = Priv.u.code) : gateDenies n (s.cfg.xlen.trunc wm) s = false :=
  (gateDenies_eq_false_iff n _ s).mpr fun _ => ⟨.inl hread, hp ▸ BitVec.not_lt.mp BitVec.not_lt_zero⟩

section Checked

variable {n : BitVec 12} {nv wm : Word} {s : State} (hgate : gateDenies n (s.cfg.xlen.trunc wm) s = false)

include hgate

/-- Past gating, an entry that reads behind the counter check answers by the level's enable bit. -/
theorem accessRegister_checkedRead {r : BitVec 12 → State → Except CsrError (Word × State)} {p : Word} {t : State}
    (he : accessorEntry s.cfg n = some (.read r))
    (hr : r n s.clearOutput = if counterDenied n s.clearOutput then .error .accessDenied else .ok (p, t)) :
    accessRegister n nv wm s = if counterEnabled s (enableIndex n) then { t with result := some (.success p) }
      else accessFailed s .accessDenied := by
  have hcore := (accessCore_entry n (s.cfg.xlen.trunc nv) _ s.clearOutput _ hgate he).trans hr
  have hcheck : counterDenied n s.clearOutput = !counterEnabled s (enableIndex n) := counterDenied_eq n s.clearOutput
  rw [hcheck] at hcore
  cases hbit : counterEnabled s (enableIndex n) <;> rw [hbit] at hcore
  · exact accessRegister_error n nv wm s _ hcore
  · exact accessRegister_ok n nv wm s p t hcore

theorem accessRegister_gatedZero (he : accessorEntry s.cfg n = some (.read readGatedZero)) :
    accessRegister n nv wm s = if counterEnabled s (enableIndex n) then accessDone s 0 s.bank []
      else accessFailed s .accessDenied :=
  accessRegister_checkedRead hgate he rfl

theorem accessRegister_gatedCount (he : accessorEntry s.cfg n = some (.read readGatedCount)) :
    accessRegister n nv wm s = if counterEnabled s (enableIndex n) then countDone s (s.cfg.xlen.trunc (nextCount s))
      else accessFailed s .accessDenied :=
  accessRegister_checkedRead hgate he rfl

theorem accessRegister_gatedCounth (he : accessorEntry s.cfg n = some (.read readGatedCounth)) :
    accessRegister n nv wm s = if counterEnabled s (enableIndex n) then countDone s (nextCount s >>> 32)
      else accessFailed s .accessDenied :=
  accessRegister_checkedRead hgate he rfl

end Checked

/-! ### Performance counters (R236, R237) -/

/-- A user-level register that reads 0 behind the check of its enable bit `k`. -/
theorem exec_gatedZero {i : Instr} {n : BitVec 12} {k : Nat} {nv wm : Word} {s : State} (hread : pureRead s wm)
    (hi : encode i = .call n nv wm) (hp : requiredPrivilege n = Priv.u.code) (hk : enableIndex n = k)
    (he : accessorEntry s.cfg n = some (.read readGatedZero)) : exec i s =
      .next (if counterEnabled s k then accessDone s 0 s.bank [] else accessFailed s .accessDenied) := by
  rw [exec_of_encode_call s hi, accessRegister_gatedZero (gateDenies_of_userRead hread hp) he, hk]

/-- Settles O39: the 29 are one block, and the low five bits of each number are the counter's index. -/
theorem performanceCountersGatedZero : Obligations.PerformanceCountersGatedZero := by
  intro s nv wm hsystem hread p hp
  have hnumber : ∃ n, encode p.2 = .call n nv wm ∧ requiredPrivilege n = Priv.u.code ∧ enableIndex n = p.1 ∧
      0xC03 ≤ n.toNat ∧ n.toNat ≤ 0xC1F := by
    fin_cases hp <;> exact ⟨_, rfl, rfl, rfl, by decide⟩
  obtain ⟨n, hcall, hlevel, hindex, hfirst, hlast⟩ := hnumber
  exact exec_gatedZero hread hcall hlevel hindex (entry_hpmcounter _ hsystem n hfirst hlast)

/-- Settles O40: the low five bits of a high half's number are those of its low half. -/
theorem performanceCounterHighHalvesGatedZero : Obligations.PerformanceCounterHighHalvesGatedZero := by
  intro s nv wm hsystem hx hread p hp
  have hnumber : ∃ n, encode p.2 = .call n nv wm ∧ requiredPrivilege n = Priv.u.code ∧ enableIndex n = p.1 ∧
      0xC83 ≤ n.toNat ∧ n.toNat ≤ 0xC9F := by
    fin_cases hp <;> exact ⟨_, rfl, rfl, rfl, by decide⟩
  obtain ⟨n, hcall, hlevel, hindex, hfirst, hlast⟩ := hnumber
  exact exec_gatedZero hread hcall hlevel hindex (entry_hpmcounterh _ hsystem hx n hfirst hlast)

/-! ### The count (R241 to R248) -/

/-- Settles O41: the four share one accessor, whose check the machine-level numbers always pass. -/
theorem cycleAndInstretReadTheCount : Obligations.CycleAndInstretReadTheCount := by
  refine ⟨fun s nv wm hsystem hread => ⟨?_, ?_⟩, fun s nv wm h => ⟨?_, ?_⟩, count_le_nextCount⟩ <;>
    refine congrArg Host.Outcome.next ?_
  · exact accessRegister_gatedCount (gateDenies_of_userRead hread rfl) (entry_cycle _ hsystem)
  · exact accessRegister_gatedCount (gateDenies_of_userRead hread rfl) (entry_instret _ hsystem)
  · exact (accessRegister_gatedCount (gateDenies_of_reaches _ h rfl rfl) (entry_mcycle _ h.1)).trans
      (if_pos (counterEnabled_of_machine h _))
  · exact (accessRegister_gatedCount (gateDenies_of_reaches _ h rfl rfl) (entry_minstret _ h.1)).trans
      (if_pos (counterEnabled_of_machine h _))

/-- Settles O42: the four halves share another. -/
theorem counterHighHalvesReadTheCount : Obligations.CounterHighHalvesReadTheCount := by
  refine ⟨fun s nv wm hsystem hx hread => ⟨?_, ?_⟩, fun s nv wm h hx => ⟨?_, ?_⟩⟩ <;>
    refine congrArg Host.Outcome.next ?_
  · exact accessRegister_gatedCounth (gateDenies_of_userRead hread rfl) (entry_cycleh _ hsystem hx)
  · exact accessRegister_gatedCounth (gateDenies_of_userRead hread rfl) (entry_instreth _ hsystem hx)
  · exact (accessRegister_gatedCounth (gateDenies_of_reaches _ h rfl rfl) (entry_mcycleh _ h.1 hx)).trans
      (if_pos (counterEnabled_of_machine h _))
  · exact (accessRegister_gatedCounth (gateDenies_of_reaches _ h rfl rfl) (entry_minstreth _ h.1 hx)).trans
      (if_pos (counterEnabled_of_machine h _))

end Sys2Proof.Machine
end

section
/-! SUPPORT. Accesses of the floating-point status registers, on either build (R260 to R265). -/

namespace Sys2Proof.Machine

/-! ### The check and the dirty mark (R260, R261, R265) -/

/-- The check fails exactly with privilege levels and FS off. -/
theorem fpDenied_iff (s : State) : fpDenied s = true ↔ s.cfg.system = true ∧ s.bank.mstatus &&& 0x6000 = 0 := by
  rw [fpDenied, Bool.and_eq_true, fsOff, beq_iff_eq]
  rfl

theorem markDirty_bank_of_system {s : State} (hsystem : s.cfg.system = true) :
    (markDirty s).bank = { s.bank with mstatus := s.bank.mstatus ||| 0x6000 } :=
  congrArg State.bank (if_pos hsystem)

theorem markDirty_bank_of_userBuild {s : State} (hsystem : s.cfg.system = false) : (markDirty s).bank = s.bank := by
  simp [markDirty, hsystem]

/-- The mark does not depend on the output of the access before it. -/
theorem markDirty_clearOutput (s : State) : markDirty s.clearOutput = (markDirty s).clearOutput := by
  simp only [markDirty, apply_ite State.clearOutput]
  rfl

/-! ### Accesses (R262 to R264) -/

/-- No level and neither build gates a user-level number that can be written (R122). -/
theorem gateDenies_of_userWritable {n : BitVec 12} (wm : Word) (s : State) (hp : requiredPrivilege n = Priv.u.code)
    (hn : isReadOnly n = false) : gateDenies n wm s = false :=
  (gateDenies_eq_false_iff n wm s).mpr fun _ => ⟨.inr hn, hp ▸ BitVec.not_lt.mp BitVec.not_lt_zero⟩

section Float

variable {nv wm : Word} {s : State} {marked : Bank} (hon : ¬fpDenied s = true) (hmark : (markDirty s).bank = marked)

include hon hmark

/-- Past the check, an entry that reads `get` of the bank and stores `set` beside the dirty mark returns the one and,
unless the mask is empty, leaves the other. -/
theorem accessRegister_float {n : BitVec 12} {r : BitVec 12 → State → Except CsrError (Word × State)}
    {w : BitVec 12 → Word → State → Except CsrError State} (get : Bank → Word) (set : Bank → Word → Bank)
    (hp : requiredPrivilege n = Priv.u.code) (hn : isReadOnly n = false)
    (hr : ∀ t, r n t = if fpDenied t then .error .accessDenied else .ok (get t.bank, t))
    (hw : ∀ v t, w n v t = if fpDenied t then .error .accessDenied else
      .ok ((markDirty t).setBank (set (markDirty t).bank v)))
    (he : accessorEntry s.cfg n = some (.readWrite r w)) : accessRegister n nv wm s =
      if pureRead s wm then accessDone s (get s.bank) s.bank []
      else accessDone s (get s.bank) (set marked (merged s (get s.bank) nv wm)) [] := by
  have hcore := accessCore_entry n (s.cfg.xlen.trunc nv) (s.cfg.xlen.trunc wm) s.clearOutput _
    (gateDenies_of_userWritable _ _ hp hn) he
  have hread : r n s.clearOutput = .ok (get s.bank, s.clearOutput) := (hr _).trans (if_neg hon)
  have hwrite : ∀ v, w n v s.clearOutput = .ok (s.clearOutput.setBank (set marked v)) := fun v => by
    rw [hw, markDirty_setBank, markDirty_clearOutput, ← hmark]
    exact if_neg hon
  split
  · rename_i hpure
    have hmask : s.cfg.xlen.trunc wm = 0 := hpure
    exact accessRegister_ok n nv wm s _ _ (hcore.trans (hmask ▸ plainAccess_pureRead n _ _ r w _ _ hread))
  · exact accessRegister_ok n nv wm s _ _
      (hcore.trans (plainAccess_write n _ _ _ r w _ _ _ hread ‹_› (hwrite _)))

/-- R262. -/
theorem accessRegister_fflags (he : accessorEntry s.cfg 0x001 = some (.readWrite readFflags writeFflags)) :
    let prior : Word := s.bank.fflags.setWidth 64
    accessRegister 0x001 nv wm s = if pureRead s wm then accessDone s prior s.bank []
      else accessDone s prior { marked with fflags := (merged s prior nv wm).setWidth 5 } [] :=
  accessRegister_float hon hmark (fun b => b.fflags.setWidth 64) (fun b v => { b with fflags := v.setWidth 5 }) rfl rfl
    (fun _ => rfl) (fun _ _ => rfl) he

/-- R263. -/
theorem accessRegister_frm (he : accessorEntry s.cfg 0x002 = some (.readWrite readFrm writeFrm)) :
    let prior : Word := s.bank.frm.setWidth 64
    accessRegister 0x002 nv wm s = if pureRead s wm then accessDone s prior s.bank []
      else accessDone s prior { marked with frm := (merged s prior nv wm).setWidth 3 } [] :=
  accessRegister_float hon hmark (fun b => b.frm.setWidth 64) (fun b v => { b with frm := v.setWidth 3 }) rfl rfl
    (fun _ => rfl) (fun _ _ => rfl) he

/-- R264. -/
theorem accessRegister_fcsr (he : accessorEntry s.cfg 0x003 = some (.readWrite readFcsr writeFcsr)) :
    let prior : Word := fcsrWord s.bank.frm s.bank.fflags
    let v := merged s prior nv wm
    accessRegister 0x003 nv wm s = if pureRead s wm then accessDone s prior s.bank []
      else accessDone s prior { marked with frm := fcsrFrm v, fflags := fcsrFflags v } [] :=
  accessRegister_float hon hmark (fun b => fcsrWord b.frm b.fflags)
    (fun b v => { b with frm := fcsrFrm v, fflags := fcsrFflags v }) rfl rfl
    (fun _ => rfl) (fun _ _ => rfl) he

end Float

/-- Settles O44: with FS on the three share one shape, whose mark is `mstatus ||| 0x6000`; with FS off their reads
fail. -/
theorem floatRegisters : Obligations.FloatRegisters := by
  refine ⟨fun s nv wm hsystem hfs => ?on, fun s nv wm hsystem hfs => ?off⟩
  case on =>
    have hon : ¬fpDenied s = true := fun h => hfs ((fpDenied_iff s).mp h).2
    have hmark := markDirty_bank_of_system hsystem
    refine ⟨?_, ?_, ?_⟩ <;> refine congrArg Host.Outcome.next ?_
    · exact accessRegister_fflags hon hmark (entry_fflags _ hsystem)
    · exact accessRegister_frm hon hmark (entry_frm _ hsystem)
    · exact accessRegister_fcsr hon hmark (entry_fcsr _ hsystem)
  case off =>
    have hlevel : reaches s .u := ⟨hsystem, BitVec.not_lt.mp BitVec.not_lt_zero⟩
    have hoff : fpDenied s.clearOutput = true := (fpDenied_iff _).mpr ⟨hsystem, hfs⟩
    simp only [List.forall_mem_cons, List.not_mem_nil, false_implies, implies_true, and_true]
    refine ⟨?_, ?_, ?_⟩ <;> refine congrArg Host.Outcome.next ?_
    · exact accessRegister_readFails hlevel rfl rfl (entry_fflags _ hsystem) (if_pos hoff)
    · exact accessRegister_readFails hlevel rfl rfl (entry_frm _ hsystem) (if_pos hoff)
    · exact accessRegister_readFails hlevel rfl rfl (entry_fcsr _ hsystem) (if_pos hoff)

/-- Settles O45: the shape is the same, and neither the check nor the mark does anything. -/
theorem floatRegistersOfTheUserBuild : Obligations.FloatRegistersOfTheUserBuild := by
  intro s nv wm hsystem
  have hon : ¬fpDenied s = true := fun h => Bool.false_ne_true (hsystem.symm.trans ((fpDenied_iff s).mp h).1)
  have hmark := markDirty_bank_of_userBuild hsystem
  refine ⟨?_, ?_, ?_⟩ <;> refine congrArg Host.Outcome.next ?_
  · exact accessRegister_fflags hon hmark (userEntry_fflags _ hsystem)
  · exact accessRegister_frm hon hmark (userEntry_frm _ hsystem)
  · exact accessRegister_fcsr hon hmark (userEntry_fcsr _ hsystem)

end Sys2Proof.Machine
end

section
/-! SUPPORT. Traps, trap returns and interrupts: what they make of the status word, and where they go (R300, R303 to
R306, R308 to R310). -/

namespace Sys2Proof.Machine

/-! ### Bits of the status word (R24, R25) -/

theorem getLsbD_setFlag (v mask : Word) (b : Bool) (k : Nat) :
    (setFlag v mask b).getLsbD k = if mask.getLsbD k then b else v.getLsbD k := by
  cases b with
  | false =>
    show (v &&& ~~~mask).getLsbD k = _
    rw [BitVec.getLsbD_and, BitVec.getLsbD_not]
    cases hv : v.getLsbD k
    · simp
    · simp [BitVec.lt_of_getLsbD hv]
  | true =>
    show (v ||| mask).getLsbD k = _
    cases hm : mask.getLsbD k <;> simp [hm]

theorem hasFlag_twoPow (v : Word) (i : Nat) : hasFlag v (BitVec.twoPow 64 i) = v.getLsbD i := by
  rw [hasFlag, BitVec.and_twoPow]
  cases hi : v.getLsbD i
  · rfl
  · have hbit : (BitVec.twoPow 64 i).getLsbD i = true := by simp [BitVec.lt_of_getLsbD hi]
    have hne : BitVec.twoPow 64 i ≠ 0#64 := fun h => by simp [h] at hbit
    exact bne_iff_ne.mpr hne

/-- Bit `i` takes bit `j`, and bit `j` becomes `b`: what a trap and a return do to an enable and its stack. -/
def moveFlag (v : Word) (i j : Nat) (b : Bool) : Word :=
  setFlag (setFlag v (BitVec.twoPow 64 i) (hasFlag v (BitVec.twoPow 64 j))) (BitVec.twoPow 64 j) b

theorem getLsbD_moveFlag (v : Word) {i j : Nat} (b : Bool) (hi : i < 64) (hj : j < 64) (k : Nat) :
    (moveFlag v i j b).getLsbD k = if j = k then b else if i = k then v.getLsbD j else v.getLsbD k := by
  simp [moveFlag, getLsbD_setFlag, hasFlag_twoPow, hi, hj]

theorem getLsbD_mstatusMPP (k : Nat) : mstatusMPP.getLsbD k = (decide (11 = k) || decide (12 = k)) := by
  have hbits : mstatusMPP = BitVec.twoPow 64 11 ||| BitVec.twoPow 64 12 := rfl
  simp [hbits]

/-- MPP holds the field that was set (R25). -/
theorem extractLsb'_setMpp (v : Word) (f : BitVec 2) : (setMpp v f).extractLsb' 11 2 = f := by
  ext k hk
  have hmask : mstatusMPP.getLsbD (11 + k) = true := by
    rw [getLsbD_mstatusMPP, Bool.or_eq_true, decide_eq_true_eq, decide_eq_true_eq]
    omega
  rw [BitVec.getElem_extractLsb', setMpp]
  simp only [BitVec.getLsbD_or, BitVec.getLsbD_and, BitVec.getLsbD_not, hmask]
  simp [hk, show 11 + k < 64 by omega]

/-- Setting MPP leaves every other bit. -/
theorem getLsbD_setMpp_of_ne (v : Word) (f : BitVec 2) {k : Nat} (h11 : 11 ≠ k) (h12 : 12 ≠ k) :
    (setMpp v f).getLsbD k = v.getLsbD k := by
  have hmask : mstatusMPP.getLsbD k = false := by simp [getLsbD_mstatusMPP, h11, h12]
  by_cases hk : k < 64
  · simp only [setMpp, BitVec.getLsbD_or, BitVec.getLsbD_and, BitVec.getLsbD_not, hmask]
    simp [hk]
  · rw [BitVec.getLsbD_of_ge _ k (by omega), BitVec.getLsbD_of_ge _ k (by omega)]

/-- An enable moved within the bits below MPP, and MPP set beside it. -/
theorem setMpp_moveFlag_fields (v : Word) {i j : Nat} (b : Bool) (f : BitVec 2) {others : List Nat} (hi : i < 11)
    (hj : j < 11) (hij : j ≠ i) (hothers : [i, j, 11, 12] ⊆ others) :
    let m := setMpp (moveFlag v i j b) f
    m.getLsbD i = v.getLsbD j ∧ m.getLsbD j = b ∧ m.extractLsb' 11 2 = f
      ∧ ∀ k, k ∉ others → m.getLsbD k = v.getLsbD k := by
  have hmove := getLsbD_moveFlag v b (show i < 64 by omega) (show j < 64 by omega)
  refine ⟨?_, ?_, extractLsb'_setMpp _ _, fun k hk => ?_⟩
  · rw [getLsbD_setMpp_of_ne _ _ (by omega) (by omega), hmove, if_neg hij, if_pos rfl]
  · rw [getLsbD_setMpp_of_ne _ _ (by omega) (by omega), hmove, if_pos rfl]
  · have hne : ∀ l ∈ [i, j, 11, 12], l ≠ k := fun l hl => ne_of_mem_of_not_mem (hothers hl) hk
    rw [getLsbD_setMpp_of_ne _ _ (hne 11 (by simp)) (hne 12 (by simp)), hmove, if_neg (hne j (by simp)),
      if_neg (hne i (by simp))]

/-- An enable moved within the bits below SPP, and SPP set beside it. -/
theorem setSpp_moveFlag_fields (v : Word) {i j : Nat} (b f : Bool) {others : List Nat} (hi : i < 8) (hj : j < 8)
    (hij : j ≠ i) (hothers : [i, j, 8] ⊆ others) :
    let m := setFlag (moveFlag v i j b) (BitVec.twoPow 64 8) f
    m.getLsbD i = v.getLsbD j ∧ m.getLsbD j = b ∧ m.getLsbD 8 = f
      ∧ ∀ k, k ∉ others → m.getLsbD k = v.getLsbD k := by
  have hmove := getLsbD_moveFlag v b (show i < 64 by omega) (show j < 64 by omega)
  have hspp : ∀ k, (setFlag (moveFlag v i j b) (BitVec.twoPow 64 8) f).getLsbD k =
      if 8 = k then f else (moveFlag v i j b).getLsbD k := fun k => by simp [getLsbD_setFlag]
  refine ⟨?_, ?_, ?_, fun k hk => ?_⟩ <;> rw [hspp]
  · rw [if_neg (by omega), hmove, if_neg hij, if_pos rfl]
  · rw [if_neg (by omega), hmove, if_pos rfl]
  · rw [if_pos rfl]
  · have hne : ∀ l ∈ [i, j, 8], l ≠ k := fun l hl => ne_of_mem_of_not_mem (hothers hl) hk
    rw [if_neg (hne 8 (by simp)), hmove, if_neg (hne j (by simp)), if_neg (hne i (by simp))]

/-- R309, to M: the enable is saved and cleared, and the level left stands in MPP. -/
theorem mstatusTrapM_fields (v : Word) (p : Priv) :
    let m := mstatusTrapM v p
    m.getLsbD 7 = v.getLsbD 3 ∧ m.getLsbD 3 = false ∧ m.extractLsb' 11 2 = p.code
      ∧ ∀ k, k ∉ [3, 7, 11, 12] → m.getLsbD k = v.getLsbD k :=
  setMpp_moveFlag_fields v (i := 7) (j := 3) false p.code (by decide) (by decide) (by decide) (by decide)

/-- R309, to S: the enable is saved and cleared, and the level left stands in SPP. -/
theorem mstatusTrapS_fields (v : Word) (p : Priv) :
    let m := mstatusTrapS v p
    m.getLsbD 5 = v.getLsbD 1 ∧ m.getLsbD 1 = false ∧ m.getLsbD 8 = p.code.getLsbD 0
      ∧ ∀ k, k ∉ [1, 5, 8] → m.getLsbD k = v.getLsbD k :=
  setSpp_moveFlag_fields v (i := 5) (j := 1) false _ (by decide) (by decide) (by decide) (by decide)

/-- R310, from M: the enable is restored, and MPP holds U, or M where U is absent. -/
theorem mstatusMret_fields (c : Config) (v : Word) :
    let m := mstatusMret c v
    m.getLsbD 3 = v.getLsbD 7 ∧ m.getLsbD 7 = true ∧ m.extractLsb' 11 2 = (if c.misa.getLsbD 20 then 0 else 3)
      ∧ ∀ k, k ∉ [3, 7, 11, 12] → m.getLsbD k = v.getLsbD k :=
  setMpp_moveFlag_fields v (i := 3) (j := 7) true _ (by decide) (by decide) (by decide) (by decide)

/-- R310, from S: the enable is restored, and SPP is 0. -/
theorem mstatusSret_fields (v : Word) :
    let m := mstatusSret v
    m.getLsbD 1 = v.getLsbD 5 ∧ m.getLsbD 5 = true ∧ m.getLsbD 8 = false
      ∧ ∀ k, k ∉ [1, 5, 8] → m.getLsbD k = v.getLsbD k :=
  setSpp_moveFlag_fields v (i := 1) (j := 5) true false (by decide) (by decide) (by decide) (by decide)

/-! ### Inputs (R80) -/

/-- A step runs the input at the head of the inbox. -/
theorem step_of_inbox {s : State} {i : Input} {rest : List Input} (h : s.inbox = i :: rest) :
    step s = runInput i { s with inbox := rest } := by
  simp only [step, runNext, h]

/-! ### Trap entry (R300, R309) -/

/-- The status word after a trap, whichever level it goes to. -/
def trapStatus (b : Bank) (c : TrapCause) : Word :=
  if trapsToS b c then mstatusTrapS b.mstatus b.priv else mstatusTrapM b.mstatus b.priv

theorem trapStatus_machine {b : Bank} {c : TrapCause} (h : trapsToS b c = false) :
    trapStatus b c = mstatusTrapM b.mstatus b.priv := by
  simp [trapStatus, h]

theorem trapStatus_supervisor {b : Bank} {c : TrapCause} (h : trapsToS b c = true) :
    trapStatus b c = mstatusTrapS b.mstatus b.priv := by
  simp [trapStatus, h]

/-- Settles O51: the trap takes the branch of its target, whose status word is `mstatusTrapM` or `mstatusTrapS`. -/
theorem trapEntrySavesAndRedirects : Obligations.TrapEntrySavesAndRedirects := by
  intro s c v rest hinbox
  have hstep := step_of_inbox hinbox
  refine ⟨trapStatus s.bank c, fun hto => ?machine, fun hto => ?supervisor⟩
  case machine =>
    have htarget : trapsToS s.bank c = false := by cases c <;> exact hto
    rw [trapStatus_machine htarget]
    have htaken := takeTrap_machine (State.clearOutput { s with inbox := rest }) c v htarget
    exact ⟨hstep.trans (congrArg _ htaken), mstatusTrapM_fields _ _⟩
  case supervisor =>
    have htarget : trapsToS s.bank c = true := by cases c <;> exact hto
    rw [trapStatus_supervisor htarget]
    have htaken := takeTrap_supervisor (State.clearOutput { s with inbox := rest }) c v htarget
    exact ⟨hstep.trans (congrArg _ htaken), mstatusTrapS_fields _ _⟩

/-- A CSR instruction whose access fails takes the trap, whatever its destination (R300). -/
theorem csrInstruction_failure {csr : BitVec 12} {c : CallShape} {s : State} (rd : BitVec 5) {k : CsrError}
    (h : (accessRegister csr c.newValue c.writeMask s).result = some (.failure k)) :
    csrInstruction csr c rd s = trapped s k := by
  rw [csrInstruction, accessRegister_eq_failed h, retire_accessFailed]

/-- The illegal-instruction trap goes to S below M when bit 2 of `medeleg` is set (R303, R309). -/
theorem trapsToS_illegalInstruction (b : Bank) : trapsToS b (.exception .illegalInstruction) = true ↔
    b.priv ≠ .m ∧ b.medeleg.getLsbD 2 = true := by
  rw [trapsToS, Bool.and_eq_true, bne_iff_ne]
  rfl

/-- Settles O48: the six instructions differ in their call alone, and its failure takes the trap. -/
theorem csrInstructionsTrapOnFailure : Obligations.CsrInstructionsTrapOnFailure := by
  intro i csr f rd nv wm s k hi hk
  have hcall : exec i s = .next (csrInstruction csr ⟨nv, wm⟩ rd s) := by
    simp only [List.mem_cons, List.not_mem_nil, or_false, Prod.mk.injEq] at hi
    obtain ⟨rfl, rfl, rfl⟩ | ⟨rfl, rfl, rfl⟩ | ⟨rfl, rfl, rfl⟩ | ⟨rfl, rfl, rfl⟩ | ⟨rfl, rfl, rfl⟩ |
      ⟨rfl, rfl, rfl⟩ := hi <;> rfl
  have hexec : exec i s = .next (trapped s k) := hcall.trans (congrArg _ (csrInstruction_failure rd hk))
  have htarget := trapsToS_illegalInstruction s.bank
  refine ⟨trapStatus s.bank (.exception .illegalInstruction), fun hto => ?machine, fun hto => ?supervisor⟩
  case machine =>
    have hmachine : trapsToS s.bank (.exception .illegalInstruction) = false := by
      rw [Bool.eq_false_iff, Ne, htarget, not_and_or, not_not, Bool.not_eq_true]
      exact hto
    rw [trapStatus_machine hmachine]
    have htaken := takeTrap_machine { accessFailed s k with draws := s.draws + 1 } _ (Config.trapValue s.draws) hmachine
    exact ⟨hexec.trans (congrArg _ htaken), mstatusTrapM_fields _ _⟩
  case supervisor =>
    rw [trapStatus_supervisor (htarget.mpr hto)]
    have htaken := takeTrap_supervisor { accessFailed s k with draws := s.draws + 1 } _ (Config.trapValue s.draws)
      (htarget.mpr hto)
    exact ⟨hexec.trans (congrArg _ htaken), mstatusTrapS_fields _ _⟩

/-! ### Trap return (R310) -/

/-- MPP names the level whose encoding it holds. -/
theorem levelOf_code (n : Nat) (p : Priv) : levelOf n p.code = p := by cases p <;> rfl

/-- An mret at M goes to the level that MPP names. -/
theorem step_mret {s : State} {p : Priv} {rest : List Input} (hinbox : s.inbox = .mret :: rest)
    (hm : s.bank.priv = .m) (hp : levelOf s.draws (s.bank.mstatus.extractLsb' 11 2) = p) :
    step s = .next { s with
      inbox := rest, result := none, events := [], pc := s.bank.mepc, draws := s.draws + 1
      bank := { s.bank with priv := p, mstatus := mstatusMret s.cfg s.bank.mstatus } } := by
  subst hp
  have hallowed : mretAllowed { s with inbox := rest } = true := beq_iff_eq.mpr hm
  rw [step_of_inbox hinbox, runInput, if_pos hallowed]
  rfl

/-- An sret at S or M goes to the level that SPP names. -/
theorem step_sret {s : State} {rest : List Input} (hinbox : s.inbox = .sret :: rest) (hu : s.bank.priv ≠ .u) :
    step s = .next { s with
      inbox := rest, result := none, events := [], pc := s.bank.sepc
      bank := { s.bank with
        priv := if s.bank.mstatus.getLsbD 8 then .s else .u, mstatus := mstatusSret s.bank.mstatus } } := by
  have hallowed : sretAllowed { s with inbox := rest } = true := bne_iff_ne.mpr hu
  have hspp : s.bank.mstatus.getLsbD 8 = hasFlag s.bank.mstatus mstatusSPP := (hasFlag_twoPow _ 8).symm
  rw [step_of_inbox hinbox, runInput, if_pos hallowed, hspp]
  rfl

/-- Settles O53: at the right level the return runs, below it the step stops. -/
theorem trapReturnRestores : Obligations.TrapReturnRestores := by
  refine ⟨fun s p rest hinbox hm hp => ?_, fun s rest hinbox hm hp => ?_, fun s rest hinbox hu => ?_,
    fun s rest hinbox hm => ?_, fun s rest hinbox hu => ?_⟩
  · exact ⟨_, step_mret hinbox hm (hp ▸ levelOf_code s.draws p), mstatusMret_fields _ _⟩
  · exact ⟨_, step_mret hinbox hm (congrArg (levelOf s.draws) hp), mstatusMret_fields _ _⟩
  · exact ⟨_, step_sret hinbox hu, mstatusSret_fields _⟩
  · have hdenied : ¬mretAllowed { s with inbox := rest } = true := mt beq_iff_eq.mp hm
    rw [step_of_inbox hinbox, runInput, if_neg hdenied]
  · have hdenied : ¬sretAllowed { s with inbox := rest } = true := fun h => bne_iff_ne.mp h hu
    rw [step_of_inbox hinbox, runInput, if_neg hdenied]

/-! ### Interrupts (R304 to R306) -/

/-- R306 on the numbers of the bits. -/
theorem takable_eq (b : Bank) (j : InterruptSource) : takable b j =
    (b.mip.getLsbD j.bit && b.mie.getLsbD j.bit
      && (if b.mideleg.getLsbD j.bit then b.priv == .u || (b.priv == .s && b.mstatus.getLsbD 1)
          else b.priv != .m || b.mstatus.getLsbD 3)) := by
  have hsie : hasFlag b.mstatus mstatusSIE = b.mstatus.getLsbD 1 := hasFlag_twoPow _ 1
  have hmie : hasFlag b.mstatus mstatusMIE = b.mstatus.getLsbD 3 := hasFlag_twoPow _ 3
  rw [takable, levelAllows, hsie, hmie]

theorem takeInterrupt_none {s : State} (h : ∀ j, takable s.bank j = false) : takeInterrupt s = s := by
  have hnone : interruptPriority.find? (takable s.bank) = none :=
    List.find?_eq_none.mpr fun j _ => Bool.eq_false_iff.mp (h j)
  simp [takeInterrupt, hnone]

theorem takeInterrupt_first {s : State} {before after : List InterruptSource} {j : InterruptSource}
    (hsplit : interruptPriority = before ++ j :: after) (hbefore : ∀ k ∈ before, takable s.bank k = false)
    (hj : takable s.bank j = true) :
    takeInterrupt s = takeTrap (.interrupt j) (Config.trapValue s.draws) s.drawn := by
  have hfirst : interruptPriority.find? (takable s.bank) = some j :=
    List.find?_eq_some_iff_append.mpr ⟨hj, before, after, hsplit, fun k hk => by simp [hbefore k hk]⟩
  simp [takeInterrupt, hfirst]

/-- Settles O56: `takable` is readiness, and the search takes the first ready source of the order. -/
theorem interruptTakenByPriority : Obligations.InterruptTakenByPriority := by
  intro s rest hinbox
  simp only [← takable_eq]
  have hstep : step s = .next (takeInterrupt (State.clearOutput { s with inbox := rest })) :=
    step_of_inbox hinbox
  refine ⟨fun hnone => ?_, fun before after j hsplit hbefore hj => ?_⟩ <;> rw [hstep]
  · exact congrArg _ (takeInterrupt_none hnone)
  · exact congrArg _ (takeInterrupt_first hsplit hbefore hj)

/-- Settles O57: on a free lock there is nothing to finish, and the update finishes what the lock holds. -/
theorem controllerUpdatesPendingWord : Obligations.ControllerUpdatesPendingWord := by
  refine ⟨fun s m v rest hinbox hlock => ?_, fun s m v rest hinbox hlock => ?_⟩ <;>
    refine (step_of_inbox hinbox).trans (congrArg Host.Outcome.next ?_)
  · exact congrArg (fun t => { t with irqLock := .heldByController m v })
      (controllerFinish_of_free (s := State.clearOutput { s with inbox := rest }) hlock)
  · exact controllerFinish_controller (s := State.clearOutput { s with inbox := rest }) hlock

/-! ### Causes and the trap port (R303, R304, R308) -/

/-- Settles O52: each word, by computing it. -/
theorem causeWordsOfTheTable : Obligations.CauseWordsOfTheTable :=
  ⟨fun _ => rfl, rfl, rfl⟩

/-- Settles O54: the port cuts a value to XLEN bits, which leaves a value of XLEN bits as it is. -/
theorem trapPortWritesDirectly : Obligations.TrapPortWritesDirectly := by
  intro s p v rest hfits
  have htrunc : s.cfg.xlen.trunc v = v := (fits_iff _ v).mp hfits
  have hstep : ∀ w b, trapPortWrite w (State.clearOutput { s with inbox := rest }) =
      { s with inbox := rest, bank := b, result := none, events := [] } → s.inbox = .trapPort w :: rest →
      step s = .next { s with inbox := rest, bank := b, result := none, events := [] } :=
    fun w b hw hinbox => (step_of_inbox hinbox).trans (congrArg _ hw)
  simp only [List.forall_mem_cons]
  refine ⟨hstep _ _ rfl, hstep _ _ ?_, hstep _ _ ?_, hstep _ _ ?_, hstep _ _ ?_, hstep _ _ ?_, hstep _ _ ?_,
    hstep _ _ ?_, List.forall_mem_nil _⟩ <;> simp only [trapPortWrite, clearOutput_cfg, htrunc] <;> rfl

end Sys2Proof.Machine
end

section
/-! SUPPORT. What the levels below M reach (R122, R312, R314). -/

namespace Sys2Proof.Machine

/-! ### Numbers above the level (R122) -/

/-- An access of a number above the level leaves the bank. -/
theorem accessRegister_bank_of_above {n : BitVec 12} (nv wm : Word) {s : State} (hsystem : s.cfg.system = true)
    (h : ¬requiredPrivilege n ≤ s.bank.priv.code) : (accessRegister n nv wm s).bank = s.bank := by
  rw [accessRegister_gated nv (gateDenies_iff.mpr ⟨hsystem, .inr (BitVec.not_le.mp h)⟩)]
  rfl

/-! ### User level (R312) -/

/-- Of the bank the numbers of level U write the floating-point state and the dirty mark alone (R261). -/
theorem BankWrite.eq_float_of_user {c : Config} {n : BitVec 12} {v : Word} {b b' : Bank} (h : BankWrite c n v b b')
    (hn : requiredPrivilege n ≤ Priv.u.code) :
    b' = { b with mstatus := b'.mstatus, frm := b'.frm, fflags := b'.fflags }
      ∧ (b'.mstatus = b.mstatus ∨ b'.mstatus = b.mstatus ||| 0x6000) := by
  cases h with
  | same => exact ⟨rfl, .inl rfl⟩
  | float m r f _ hm => exact ⟨rfl, hm.imp_right And.right⟩
  | mcounteren h | scounteren h | pending _ h => obtain rfl | rfl := h <;> exact absurd hn (by decide)
  | _ h => exact absurd hn (by rw [h]; decide)

/-- Settles O12: gating stops the numbers of the levels above, and the numbers of level U write no other field. -/
theorem userLevelReachesFloatStateOnly : Obligations.UserLevelReachesFloatStateOnly := by
  intro i n nv wm s t hi hsystem hu ht
  cases (exec_of_encode_call s hi).symm.trans ht
  by_cases hn : requiredPrivilege n ≤ s.bank.priv.code
  · obtain ⟨v, -, hbank⟩ := (accessRegister_effect n nv wm s).bank
    exact hbank.eq_float_of_user (hu ▸ hn)
  · rw [accessRegister_bank_of_above nv wm hsystem hn]
    exact ⟨rfl, .inl rfl⟩

/-! ### Supervisor level (R314) -/

/-- A masked write leaves the bits in which the written value is the old one, whatever the mask (R174). -/
theorem maskedWrite_and_of_agree {old v k : Word} (mask : Word) (h : v &&& k = old &&& k) :
    maskedWrite old v mask &&& k = old &&& k := by
  calc maskedWrite old v mask &&& k = maskedWrite (old &&& k) (v &&& k) mask := by
        simp only [maskedWrite, BitVec.and_or_distrib_right, BitVec.and_assoc, BitVec.and_comm k]
    _ = old &&& k := by rw [h, maskedWrite_self]

/-- The dirty mark reaches no bit but FS (R168). -/
theorem forceDirty_and_of_disjoint {k : Word} (v : Word) (h : mstatusFS &&& k = 0) : forceDirty v &&& k = v &&& k := by
  unfold forceDirty
  split
  · rfl
  · exact setFlag_and_of_disjoint v true h

theorem mstatusFS_sstatus (c : Config) : mstatusFS &&& ~~~sstatusMask c = 0 := by
  unfold sstatusMask
  cases c.xlen <;> cases c.privVer <;> rfl

theorem mstatusSD_sstatus (c : Config) : mstatusSD c.xlen &&& ~~~sstatusMask c = 0 := by
  unfold sstatusMask
  cases c.xlen <;> cases c.privVer <;> rfl

/-- A write through the supervisor view of the status word leaves the bits outside it: the view holds FS and SD, which
the write path makes anew (R168, R169, R173). -/
theorem mstatusWritten_outside_sstatus (c : Config) (old v : Word) :
    mstatusWritten c old (maskedWrite old v (sstatusMask c)) &&& ~~~sstatusMask c = old &&& ~~~sstatusMask c := by
  calc mstatusWritten c old (maskedWrite old v (sstatusMask c)) &&& ~~~sstatusMask c
      = _ := setFlag_and_of_disjoint _ _ (mstatusSD_sstatus c)
    _ = _ := forceDirty_and_of_disjoint _ (mstatusFS_sstatus c)
    _ = old &&& ~~~sstatusMask c := maskedWrite_and_of_agree _ (maskedWrite_outside old v _)

/-- The machine-level fields of R314 are the same, and so are the bits of `mstatus` and `mie` that no supervisor view
shows. -/
structure MachineFieldsKept (c : Config) (b b' : Bank) : Prop where
  medeleg : b'.medeleg = b.medeleg := by rfl
  mideleg : b'.mideleg = b.mideleg := by rfl
  mtvec : b'.mtvec = b.mtvec := by rfl
  mepc : b'.mepc = b.mepc := by rfl
  mcause : b'.mcause = b.mcause := by rfl
  mbadaddr : b'.mbadaddr = b.mbadaddr := by rfl
  mscratch : b'.mscratch = b.mscratch := by rfl
  mcounteren : b'.mcounteren = b.mcounteren := by rfl
  mstatus : b'.mstatus &&& ~~~sstatusMask c = b.mstatus &&& ~~~sstatusMask c := by rfl
  mie : b'.mie &&& ~~~b.mideleg = b.mie &&& ~~~b.mideleg := by rfl

/-- The numbers of levels U and S keep them: sstatus, sie and the dirty mark write under the views, the others write
fields of their own. -/
theorem BankWrite.keeps_machineFields {c : Config} {n : BitVec 12} {v : Word} {b b' : Bank} (h : BankWrite c n v b b')
    (hn : requiredPrivilege n ≤ Priv.s.code) : MachineFieldsKept c b b' := by
  cases h with
  | sstatus => exact { mstatus := mstatusWritten_outside_sstatus c b.mstatus v }
  | sie => exact { mie := maskedWrite_and_of_agree _ (maskedWrite_outside b.mie v _) }
  | float m r f _ hm =>
    obtain rfl | ⟨-, rfl⟩ := hm
    · exact {}
    · exact { mstatus := setFlag_and_of_disjoint _ true (mstatusFS_sstatus c) }
  | same | stvec | sscratch | sepc | scause | sbadaddr | satp | sptbr | scounteren | pending => exact {}
  | mcounteren h => obtain rfl | rfl := h <;> exact absurd hn (by decide)
  | _ h => exact absurd hn (by rw [h]; decide)

/-- On a free lock `rmw_mip` under a mask cut to `k` leaves the pending bits outside `k` (R179, R180). -/
theorem rmwMip_outside {n : BitVec 12} {nv wm k p : Word} {s t : State} (hlock : s.irqLock = .free)
    (h : rmwMip n nv (wm &&& k) s = .ok (p, t)) :
    t.bank.mip &&& ~~~k.setWidth 32 = s.bank.mip &&& ~~~k.setWidth 32 := by
  by_cases hm : mipWritable s.cfg (wm &&& k) = 0
  · cases (rmwMip_unlocked n nv hm).symm.trans h
    rfl
  · cases (rmwMip_locked_of_free n nv hlock hm).symm.trans h
    have hcut : mipWritable s.cfg (wm &&& k) = mipWritable s.cfg wm &&& k := by
      simp only [mipWritable, BitVec.and_assoc, BitVec.and_comm k]
    rw [hcut]
    exact pendingWritten_outside s.bank.mip nv (mipWritable s.cfg wm) k

/-- On a free lock an access at S leaves the pending bits outside `mideleg`: of the numbers it reaches, sip alone writes
the pending word (R180). -/
theorem accessRegister_mip_outside (n : BitVec 12) (nv wm : Word) {s : State} (hsystem : s.cfg.system = true)
    (hlevel : s.bank.priv = .s) (hlock : s.irqLock = .free) (hn : requiredPrivilege n ≤ Priv.s.code) :
    (accessRegister n nv wm s).bank.mip &&& ~~~s.bank.mideleg.setWidth 32 =
      s.bank.mip &&& ~~~s.bank.mideleg.setWidth 32 := by
  obtain ⟨p, t, hcore, h⟩ | ⟨k, -, h⟩ := accessRegister_cases n nv wm s
  · obtain ⟨v, -, hbank⟩ := (accessRegister_effect n nv wm s).bank
    generalize hb : (accessRegister n nv wm s).bank = b at hbank
    cases hbank with
    | pending q hpending =>
      obtain rfl | rfl := hpending
      · exact absurd hn (by decide)
      · have hreach : reaches s.clearOutput .s := ⟨hsystem, hlevel ▸ BitVec.le_refl _⟩
        rw [accessCore_sip _ _ hreach] at hcore
        rw [← hb, h]
        exact rmwMip_outside (s := s.clearOutput) (t := t) hlock hcore
    | _ => rfl
  · rw [h]
    rfl

/-- Settles O13: gating stops the machine-level numbers, and the others keep what R314 names. -/
theorem supervisorLevelReach : Obligations.SupervisorLevelReach := by
  intro i n nv wm s t hi hsystem hlevel hlock ht
  cases (exec_of_encode_call s hi).symm.trans ht
  rw [specSstatusMask_eq]
  by_cases hn : requiredPrivilege n ≤ s.bank.priv.code
  · rw [hlevel] at hn
    obtain ⟨v, -, hbank⟩ := (accessRegister_effect n nv wm s).bank
    have hkept := hbank.keeps_machineFields hn
    exact ⟨hkept.medeleg, hkept.mideleg, hkept.mtvec, hkept.mepc, hkept.mcause, hkept.mbadaddr, hkept.mscratch,
      hkept.mcounteren, hkept.mstatus, hkept.mie, accessRegister_mip_outside n nv wm hsystem hlevel hlock hn⟩
  · rw [accessRegister_bank_of_above nv wm hsystem hn]
    exact ⟨rfl, rfl, rfl, rfl, rfl, rfl, rfl, rfl, rfl, rfl, rfl⟩

end Sys2Proof.Machine
end

section
/-! SUPPORT. The state after reset and after a thread reset (R340 to R343). -/

namespace Sys2Proof.Machine

theorem fits_zero (x : Xlen) : Word.fits x 0 = true := fits_of_toNat_lt x (by decide)

theorem bankFits_reset (x : Xlen) : bankFits x Bank.reset := by
  simp only [bankFits, Bank.reset, fits_zero, and_self]

theorem stuckBitsZero_reset (c : Config) : stuckBitsZero c Bank.reset :=
  ⟨BitVec.zero_and, BitVec.zero_and, BitVec.zero_and, BitVec.zero_and, BitVec.zero_and, BitVec.zero_and⟩

/-- The program counter after reset is below `2 ^ 32`, and every general register is 0 (assumption 7). -/
theorem engineFits_resetOf (c : Config) : engineFits (State.resetOf c) := by
  have hx : ∀ i : Fin 32, (State.resetOf c).x[i] = 0 := fun i => Vector.getElem_replicate i.isLt
  have hpc : (0x80000000 : Word).toNat < 2 ^ 32 := by decide
  exact ⟨fits_of_toNat_lt _ hpc, fun i => (hx i).symm ▸ fits_zero _, hx 0⟩

/-- The two fields that a configuration leaves open are the only condition on the reset state. -/
theorem machineInv_resetOf {c : Config} (hmisa : c.misa.fits c.xlen = true) (hhart : c.mhartid.fits c.xlen = true) :
    machineInv (State.resetOf c) :=
  ⟨hmisa, hhart, bankFits_reset _, stuckBitsZero_reset c, engineFits_resetOf c, IrqLock.noConfusion⟩

/-- Settles O16: a reset bank is all zeros but for the level, and the engine's registers fit either width. -/
theorem resetMeetsTheMachineInvariant : Obligations.ResetMeetsTheMachineInvariant :=
  ⟨machineInv_resetOf (by decide) (by decide), fun _ => machineInv_resetOf⟩

/-- A thread reset writes the bank, and clears the output as every input that is no access does. -/
theorem step_threadReset {s : State} {rest : List Input} (hinbox : s.inbox = .threadReset :: rest) :
    step s = .next { s with inbox := rest, result := none, events := [], bank := Bank.reset } :=
  step_of_inbox hinbox

/-- Settles O55: a thread reset gives the bank the values it has in the reset state, those of R340 and R342. -/
theorem threadResetValues : Obligations.ThreadResetValues :=
  ⟨fun _ _ hinbox => step_threadReset hinbox, rfl⟩

end Sys2Proof.Machine
end
